-- ==== Sys2Proof/Word.lean ====
section
/-! DEFINITION. The words the gcasa/D core works on, by width (00 R6). -/

namespace Sys2Proof

/-- A value of the 16-bit ALU, of a general register, of a U register or of the data bus (00 R6). -/
abbrev Word := BitVec 16

/-- A byte: an RH register, an entry of the IB, an IOP latch, a port address or value (00 R6). -/
abbrev Byte := BitVec 8

/-- A microword as the control store holds it (30 R110). -/
abbrev ControlWord := BitVec 48

/-- A control-store address, the width of a TPC (10 R27). -/
abbrev CSAddr := BitVec 12

end Sys2Proof
end

