-- ==== Sys2Proof/Config.lean ====
section
/-! DEFINITION. What is fixed for the machine: its tasks and phases, the inputs of a step, the parameters of
00 R6 with their values and defaults, and the FREE VALUES the spec leaves to the environment (constants with no
body, so that no proof can see what they are). -/

namespace Sys2Proof

/-- The eight tasks, numbered 0 to 7 in this order (10 R26). -/
inductive Task where
  | emulator | display | ethernet | refresh | disk | iop | iopcs | kernel
  deriving DecidableEq, Repr, Inhabited

/-- The three values of the cycle-phase counter (10 R31): address latch, data write, data read. -/
inductive Phase where
  | c1 | c2 | c3
  deriving DecidableEq, Repr, Inhabited

/-- The inputs the host supplies to one step (45 R350). The four wakeup signals are those of the device
tasks 1 to 4. -/
structure Inputs where
  extBus : Word
  wakeDisplay : Bool
  wakeEthernet : Bool
  wakeRefresh : Bool
  wakeDisk : Bool
  xRef : Bool
  memErr : Bool
  deriving DecidableEq, Repr, Inhabited

/-- Every input at zero. -/
def Inputs.zero : Inputs := ⟨0, false, false, false, false, false, false⟩

/-- The parity conventions of 30 R136. -/
inductive ParityMode where
  | odd | even | off
  deriving DecidableEq, Repr

/-- What an IBLoad into a Full buffer does (41 R213). -/
inductive IBOverflowPolicy where
  | fault | discard
  deriving DecidableEq, Repr

/-- A nibble table as data: its carry out and overflow at each index `{r, s, c}` (40 R168, R189). -/
abbrev NibbleRows := Vector (Bool × Bool) 512

/-- Tables for the five logic functions. -/
structure LogicRows where
  orT : NibbleRows
  andT : NibbleRows
  notrsT : NibbleRows
  exorT : NibbleRows
  exnorT : NibbleRows
  deriving DecidableEq, Repr

/-- The values of LOGIC_CARRY: the Am2901 equations of 40 R170 to R174, or any other tables (40 R189; log 14). -/
inductive LogicCarry where
  | am2901
  | tables (rows : LogicRows)
  deriving DecidableEq, Repr

/-- The implementation parameters of 00 R6 that the spec leaves open. They stand in the state, so that a step
takes each of them at every value; no step changes one (log 12 to log 15). -/
structure Params where
  parityMode : ParityMode
  /-- TASK_PRIORITY, first first (45 R352). -/
  taskPriority : List Task
  logicCarry : LogicCarry
  ibOverflow : IBOverflowPolicy
  deriving DecidableEq, Repr

/-- The eight tasks in the order of their numbers, TASK_PRIORITY's default (45 R352). -/
def Task.inOrder : List Task := [.emulator, .display, .ethernet, .refresh, .disk, .iop, .iopcs, .kernel]

/-- Every parameter at the default of 00 R6. -/
def Config.defaults : Params := ⟨.odd, Task.inOrder, .am2901, .fault⟩

/-- TASK_PRIORITY is a total order on the tasks: each stands in it once (00 R6). -/
def Params.wf (p : Params) : Bool := Task.inOrder.all fun t => decide (p.taskPriority.count t = 1)

/-- FREE VALUE: `draw()` of BusIB and BusIBNA on an Empty buffer (41 R207, R208), taken at the model's click
counter. Safe, log 5. -/
opaque Config.drawnIBByte : Nat → Byte

/-- FREE VALUE: the inputs of a step that the host's agenda does not fix (41 R202; 45 R350), taken at the
model's click counter. Safe, log 4. -/
opaque Config.freeInputs : Nat → Inputs

end Sys2Proof
end

