-- ==== Sys2Proof/Syntax.lean ====
section
/-! DEFINITION. The microinstruction set: the fields of the one 48-bit format as typed codes (30 R111 to
R131), and `Instr`, one constructor for each row of the opcode table.

A row of the table is a code of ONE FIELD of the word, so a valid word matches several rows at once. The
constructor of a valid row carries the whole decoded word; what it means is the word with that row's code in
that row's field (log 10). The constructor of a reserved row carries the 48 bits it was found in. -/

namespace Sys2Proof

/-- The ALU's source pairs, in code order 0 to 7 (30 R113). -/
inductive SrcPair where
  | aq | ab | zq | zb | za | da | dq | dz
  deriving DecidableEq, Repr

/-- The ALU's functions, in code order 0 to 7 (30 R114). -/
inductive AluFn where
  | add | subr | subs | or | and | notrs | exor | exnor
  deriving DecidableEq, Repr

/-- The destination/shift control `aD`, in code order 0 to 3 (30 R115): no register, register, shifted
down (right), shifted up (left). With the Q-select bit it gives the destination. -/
inductive DestCtl where
  | none | ram | down | up
  deriving DecidableEq, Repr

/-- The eight destinations, in code order 0 to 7 (30 R115). -/
inductive Dest where
  | qreg | nop | rama | ramf | ramqd | ramd | ramqu | ramu
  deriving DecidableEq, Repr

/-- The normal Y functions, in code order 0 to 5 (30 R126). -/
inductive FYFn where
  | nop | qOp | cycle | qCycle | block | map
  deriving DecidableEq, Repr

/-- The branch and dispatch codes, in code order 0 to 12 (30 R129). -/
inductive BDFn where
  | negBr | zeroBr | nZeroBr | intBr | pgCarryBr | carryBr | xRefBr | nibCarryBr
  | yDisp | yIODisp | ibDisp | alwaysIBDisp | ibPtrDisp
  deriving DecidableEq, Repr

/-- The I/O functions, in code order 0 to 3 (30 R130). -/
inductive IOFn where
  | nop | iopOData | iopCtl | dmaDone
  deriving DecidableEq, Repr

/-- The X functions, in code order 0 to 10 (30 R127). -/
inductive FXFn where
  | nop | busU | busRH | busIB | busIBNA | busIOP | busLink | busErr | rhWrite | ibLoad | clrIntErr
  deriving DecidableEq, Repr

/-- What the Y field holds, as the Y-selector reads it (30 R120). -/
inductive YField where
  | fy (f : FYFn)
  | bd (f : BDFn)
  | io (f : IOFn)
  deriving DecidableEq, Repr

/-- What the Z field holds when the Z-selector is 0 or 1 (30 R121, R128, R130). A Link code keeps its low
three bits, which carry no meaning. -/
inductive ZField where
  | link (low : BitVec 3)
  | nop
  | push
  | pop
  | pop2
  | io (f : IOFn)
  deriving DecidableEq, Repr

/-- What the X and Z fields hold together (30 R121, R123, R131): an X function and a Z field, or the literal
byte, which takes both. -/
inductive XZField where
  | fn (x : FXFn) (z : ZField)
  | lit (byte : Byte)
  deriving DecidableEq, Repr

/-- A decoded microword: the fields of 30 R111, with the selector and code fields as what they select. -/
structure Microword where
  rA : BitVec 4
  rB : BitVec 4
  aS : SrcPair
  aF : AluFn
  aD : DestCtl
  ep : Bool
  cin : Bool
  enSU : Bool
  mem : Bool
  y : YField
  xz : XZField
  inia : CSAddr
  deriving DecidableEq, Repr

/-- The instructions: one constructor for each row of spec/opcode_table.json, in the table's order. -/
inductive Instr where
  /-- MICROWORD: R111. -/
  | microword (o : Microword)
  /-- SRC.AQ: R151. -/
  | srcAQ (o : Microword)
  /-- SRC.AB: R152. -/
  | srcAB (o : Microword)
  /-- SRC.ZQ: R153. -/
  | srcZQ (o : Microword)
  /-- SRC.ZB: R154. -/
  | srcZB (o : Microword)
  /-- SRC.ZA: R155. -/
  | srcZA (o : Microword)
  /-- SRC.DA: R156. -/
  | srcDA (o : Microword)
  /-- SRC.DQ: R157. -/
  | srcDQ (o : Microword)
  /-- SRC.DZ: R158. -/
  | srcDZ (o : Microword)
  /-- ALU.ADD: R160. -/
  | aluADD (o : Microword)
  /-- ALU.SUBR: R161. -/
  | aluSUBR (o : Microword)
  /-- ALU.SUBS: R162. -/
  | aluSUBS (o : Microword)
  /-- ALU.OR: R163. -/
  | aluOR (o : Microword)
  /-- ALU.AND: R164. -/
  | aluAND (o : Microword)
  /-- ALU.NOTRS: R165. -/
  | aluNOTRS (o : Microword)
  /-- ALU.EXOR: R166. -/
  | aluEXOR (o : Microword)
  /-- ALU.EXNOR: R167. -/
  | aluEXNOR (o : Microword)
  /-- DEST.QREG: R178. -/
  | destQREG (o : Microword)
  /-- DEST.NOP: R179. -/
  | destNOP (o : Microword)
  /-- DEST.RAMA: R180. -/
  | destRAMA (o : Microword)
  /-- DEST.RAMF: R181. -/
  | destRAMF (o : Microword)
  /-- DEST.RAMQD: R182. -/
  | destRAMQD (o : Microword)
  /-- DEST.RAMD: R183. -/
  | destRAMD (o : Microword)
  /-- DEST.RAMQU: R184. -/
  | destRAMQU (o : Microword)
  /-- DEST.RAMU: R185. -/
  | destRAMU (o : Microword)
  /-- CYCLE: R186. -/
  | cycleShift (o : Microword)
  /-- ENSU: R251. -/
  | enSU (o : Microword)
  /-- MEM.LATCH: R321. -/
  | memLatch (o : Microword)
  /-- MEM.WRITE: R322. -/
  | memWrite (o : Microword)
  /-- MEM.READ: R323. -/
  | memRead (o : Microword)
  /-- FY.NOP: R241. -/
  | fyNOP (o : Microword)
  /-- FY.QOp: R242. -/
  | fyQOp (o : Microword)
  /-- FY.Cycle: R243. -/
  | fyCycle (o : Microword)
  /-- FY.QCycle: R244. -/
  | fyQCycle (o : Microword)
  /-- FY.Block: R245. -/
  | fyBlock (o : Microword)
  /-- FY.Map: R246. -/
  | fyMap (o : Microword)
  /-- FY.RESERVED6: R247. -/
  | fyReserved6 (w : ControlWord)
  /-- FY.RESERVED7: R247. -/
  | fyReserved7 (w : ControlWord)
  /-- FY.RESERVED8: R247. -/
  | fyReserved8 (w : ControlWord)
  /-- FY.RESERVED9: R247. -/
  | fyReserved9 (w : ControlWord)
  /-- FY.RESERVED10: R247. -/
  | fyReserved10 (w : ControlWord)
  /-- FY.RESERVED11: R247. -/
  | fyReserved11 (w : ControlWord)
  /-- FY.RESERVED12: R247. -/
  | fyReserved12 (w : ControlWord)
  /-- FY.RESERVED13: R247. -/
  | fyReserved13 (w : ControlWord)
  /-- FY.RESERVED14: R247. -/
  | fyReserved14 (w : ControlWord)
  /-- FY.RESERVED15: R247. -/
  | fyReserved15 (w : ControlWord)
  /-- BD.NegBr: R282. -/
  | bdNegBr (o : Microword)
  /-- BD.ZeroBr: R283. -/
  | bdZeroBr (o : Microword)
  /-- BD.NZeroBr: R284. -/
  | bdNZeroBr (o : Microword)
  /-- BD.IntBr: R285. -/
  | bdIntBr (o : Microword)
  /-- BD.PgCarryBr: R286. -/
  | bdPgCarryBr (o : Microword)
  /-- BD.CarryBr: R287. -/
  | bdCarryBr (o : Microword)
  /-- BD.XRefBr: R288. -/
  | bdXRefBr (o : Microword)
  /-- BD.NibCarryBr: R289. -/
  | bdNibCarryBr (o : Microword)
  /-- BD.YDisp: R290. -/
  | bdYDisp (o : Microword)
  /-- BD.YIODisp: R291. -/
  | bdYIODisp (o : Microword)
  /-- BD.IBDisp: R292. -/
  | bdIBDisp (o : Microword)
  /-- BD.AlwaysIBDisp: R293. -/
  | bdAlwaysIBDisp (o : Microword)
  /-- BD.IBPtrDisp: R294. -/
  | bdIBPtrDisp (o : Microword)
  /-- BD.RESERVED13: R295. -/
  | bdReserved13 (w : ControlWord)
  /-- BD.RESERVED14: R295. -/
  | bdReserved14 (w : ControlWord)
  /-- BD.RESERVED15: R295. -/
  | bdReserved15 (w : ControlWord)
  /-- IO.NOP@Y: R259. -/
  | ioYNOP (o : Microword)
  /-- IO.IOPOData@Y: R260. -/
  | ioYIOPOData (o : Microword)
  /-- IO.IOPCtl@Y: R261. -/
  | ioYIOPCtl (o : Microword)
  /-- IO.DMADone@Y: R262. -/
  | ioYDMADone (o : Microword)
  /-- IO.RESERVED4@Y: R263. -/
  | ioYReserved4 (w : ControlWord)
  /-- IO.RESERVED5@Y: R263. -/
  | ioYReserved5 (w : ControlWord)
  /-- IO.RESERVED6@Y: R263. -/
  | ioYReserved6 (w : ControlWord)
  /-- IO.RESERVED7@Y: R263. -/
  | ioYReserved7 (w : ControlWord)
  /-- IO.RESERVED8@Y: R263. -/
  | ioYReserved8 (w : ControlWord)
  /-- IO.RESERVED9@Y: R263. -/
  | ioYReserved9 (w : ControlWord)
  /-- IO.RESERVED10@Y: R263. -/
  | ioYReserved10 (w : ControlWord)
  /-- IO.RESERVED11@Y: R263. -/
  | ioYReserved11 (w : ControlWord)
  /-- IO.RESERVED12@Y: R263. -/
  | ioYReserved12 (w : ControlWord)
  /-- IO.RESERVED13@Y: R263. -/
  | ioYReserved13 (w : ControlWord)
  /-- IO.RESERVED14@Y: R263. -/
  | ioYReserved14 (w : ControlWord)
  /-- IO.RESERVED15@Y: R263. -/
  | ioYReserved15 (w : ControlWord)
  /-- FSY.RESERVED3: R132. -/
  | fsyReserved3 (w : ControlWord)
  /-- FX.NOP: R204. -/
  | fxNOP (o : Microword)
  /-- FX.BusU: R205. -/
  | fxBusU (o : Microword)
  /-- FX.BusRH: R206. -/
  | fxBusRH (o : Microword)
  /-- FX.BusIB: R207. -/
  | fxBusIB (o : Microword)
  /-- FX.BusIBNA: R208. -/
  | fxBusIBNA (o : Microword)
  /-- FX.BusIOP: R209. -/
  | fxBusIOP (o : Microword)
  /-- FX.BusLink: R210. -/
  | fxBusLink (o : Microword)
  /-- FX.BusErr: R211. -/
  | fxBusErr (o : Microword)
  /-- FX.RHWrite: R212. -/
  | fxRHWrite (o : Microword)
  /-- FX.IBLoad: R213. -/
  | fxIBLoad (o : Microword)
  /-- FX.ClrIntErr: R214. -/
  | fxClrIntErr (o : Microword)
  /-- FX.RESERVED11: R215. -/
  | fxReserved11 (w : ControlWord)
  /-- FX.RESERVED12: R215. -/
  | fxReserved12 (w : ControlWord)
  /-- FX.RESERVED13: R215. -/
  | fxReserved13 (w : ControlWord)
  /-- FX.RESERVED14: R215. -/
  | fxReserved14 (w : ControlWord)
  /-- FX.RESERVED15: R215. -/
  | fxReserved15 (w : ControlWord)
  /-- FZ.Link: R252. -/
  | fzLink (o : Microword)
  /-- FZ.NOP: R249. -/
  | fzNOP (o : Microword)
  /-- FZ.Push: R253. -/
  | fzPush (o : Microword)
  /-- FZ.Pop: R254. -/
  | fzPop (o : Microword)
  /-- FZ.Pop2: R255. -/
  | fzPop2 (o : Microword)
  /-- FZ.RESERVED12: R257. -/
  | fzReserved12 (w : ControlWord)
  /-- FZ.RESERVED13: R257. -/
  | fzReserved13 (w : ControlWord)
  /-- FZ.RESERVED14: R257. -/
  | fzReserved14 (w : ControlWord)
  /-- FZ.RESERVED15: R257. -/
  | fzReserved15 (w : ControlWord)
  /-- IO.NOP@Z: R259. -/
  | ioZNOP (o : Microword)
  /-- IO.IOPOData@Z: R260. -/
  | ioZIOPOData (o : Microword)
  /-- IO.IOPCtl@Z: R261. -/
  | ioZIOPCtl (o : Microword)
  /-- IO.DMADone@Z: R262. -/
  | ioZDMADone (o : Microword)
  /-- IO.RESERVED4@Z: R263. -/
  | ioZReserved4 (w : ControlWord)
  /-- IO.RESERVED5@Z: R263. -/
  | ioZReserved5 (w : ControlWord)
  /-- IO.RESERVED6@Z: R263. -/
  | ioZReserved6 (w : ControlWord)
  /-- IO.RESERVED7@Z: R263. -/
  | ioZReserved7 (w : ControlWord)
  /-- IO.RESERVED8@Z: R263. -/
  | ioZReserved8 (w : ControlWord)
  /-- IO.RESERVED9@Z: R263. -/
  | ioZReserved9 (w : ControlWord)
  /-- IO.RESERVED10@Z: R263. -/
  | ioZReserved10 (w : ControlWord)
  /-- IO.RESERVED11@Z: R263. -/
  | ioZReserved11 (w : ControlWord)
  /-- IO.RESERVED12@Z: R263. -/
  | ioZReserved12 (w : ControlWord)
  /-- IO.RESERVED13@Z: R263. -/
  | ioZReserved13 (w : ControlWord)
  /-- IO.RESERVED14@Z: R263. -/
  | ioZReserved14 (w : ControlWord)
  /-- IO.RESERVED15@Z: R263. -/
  | ioZReserved15 (w : ControlWord)
  /-- LIT: R201. -/
  | lit (o : Microword)
  /-- FSZ.RESERVED3: R132. -/
  | fszReserved3 (w : ControlWord)
  /-- INVALID.BusIB+IBDisp: R133. -/
  | invalidBusIBIBDisp (w : ControlWord)
  /-- INVALID.BusIB+AlwaysIBDisp: R133. -/
  | invalidBusIBAlwaysIBDisp (w : ControlWord)
  /-- INVALID.BusIBNA+IBDisp: R133. -/
  | invalidBusIBNAIBDisp (w : ControlWord)
  /-- INVALID.BusIBNA+AlwaysIBDisp: R133. -/
  | invalidBusIBNAAlwaysIBDisp (w : ControlWord)
  deriving DecidableEq, Repr

end Sys2Proof
end

