-- ==== Sys2Proof/WellFormed.lean ====
section
/-! DEFINITION. Well-formed instructions: the word a term carries has the code of the term's row in the row's
field, as the opcode table's match and mask say, and a valid word does not read the IB twice (30 R133). The
typed fields of `Microword` leave no other invalid word (30 R132). -/

namespace Sys2Proof

/-- The Y field is one of the two codes that set the Q-select bit (30 R134 `qSel`). -/
def YField.isQ : YField → Bool
  | .fy .qOp | .fy .qCycle => true
  | _ => false

/-- The Y field is one of the two codes that set the cycle bit (30 R134 `cycle`). -/
def YField.isCycle : YField → Bool
  | .fy .cycle | .fy .qCycle => true
  | _ => false

/-- The X function of a word that has one: none in a literal word (30 R123). -/
def XZField.x? : XZField → Option FXFn
  | .fn x _ => some x
  | .lit _ => none

/-- The Z field of a word that has one: none in a literal word (30 R124). -/
def XZField.z? : XZField → Option ZField
  | .fn _ z => some z
  | .lit _ => none

/-- The Z field holds one of the eight Link codes (30 R128). -/
def XZField.isLink : XZField → Bool
  | .fn _ (.link _) => true
  | _ => false

/-- The word is a literal word (30 R131). -/
def XZField.isLit : XZField → Bool
  | .lit _ => true
  | _ => false

/-- The combination rule of 30 R133: not BusIB or BusIBNA together with IBDisp or AlwaysIBDisp. -/
def Microword.oneIBRead (m : Microword) : Bool :=
  match m.xz.x?, m.y with
  | some .busIB, .bd .ibDisp | some .busIB, .bd .alwaysIBDisp
  | some .busIBNA, .bd .ibDisp | some .busIBNA, .bd .alwaysIBDisp => false
  | _, _ => true

/-- The bits of `w` under `mask` are `val`: a row of the opcode table matches the word. -/
def rowBits (mask val w : ControlWord) : Bool := decide (w &&& mask = val)

/-- A term is well formed when the word it carries matches the term's own row of the opcode table and, for a
valid row, meets 30 R133. -/
def Instr.wf : Instr → Bool
  | .microword o => o.oneIBRead
  | .srcAQ o => decide (o.aS = .aq) && o.oneIBRead
  | .srcAB o => decide (o.aS = .ab) && o.oneIBRead
  | .srcZQ o => decide (o.aS = .zq) && o.oneIBRead
  | .srcZB o => decide (o.aS = .zb) && o.oneIBRead
  | .srcZA o => decide (o.aS = .za) && o.oneIBRead
  | .srcDA o => decide (o.aS = .da) && o.oneIBRead
  | .srcDQ o => decide (o.aS = .dq) && o.oneIBRead
  | .srcDZ o => decide (o.aS = .dz) && o.oneIBRead
  | .aluADD o => decide (o.aF = .add) && o.oneIBRead
  | .aluSUBR o => decide (o.aF = .subr) && o.oneIBRead
  | .aluSUBS o => decide (o.aF = .subs) && o.oneIBRead
  | .aluOR o => decide (o.aF = .or) && o.oneIBRead
  | .aluAND o => decide (o.aF = .and) && o.oneIBRead
  | .aluNOTRS o => decide (o.aF = .notrs) && o.oneIBRead
  | .aluEXOR o => decide (o.aF = .exor) && o.oneIBRead
  | .aluEXNOR o => decide (o.aF = .exnor) && o.oneIBRead
  | .destQREG o => decide (o.aD = .none) && o.y.isQ && o.oneIBRead
  | .destNOP o => decide (o.aD = .none) && !o.y.isQ && o.oneIBRead
  | .destRAMA o => decide (o.aD = .ram) && o.y.isQ && o.oneIBRead
  | .destRAMF o => decide (o.aD = .ram) && !o.y.isQ && o.oneIBRead
  | .destRAMQD o => decide (o.aD = .down) && o.y.isQ && o.oneIBRead
  | .destRAMD o => decide (o.aD = .down) && !o.y.isQ && o.oneIBRead
  | .destRAMQU o => decide (o.aD = .up) && o.y.isQ && o.oneIBRead
  | .destRAMU o => decide (o.aD = .up) && !o.y.isQ && o.oneIBRead
  | .cycleShift o => o.y.isCycle && o.oneIBRead
  | .enSU o => o.enSU && o.oneIBRead
  | .memLatch o => o.mem && o.oneIBRead
  | .memWrite o => o.mem && o.oneIBRead
  | .memRead o => o.mem && o.oneIBRead
  | .fyNOP o => decide (o.y = .fy .nop) && o.oneIBRead
  | .fyQOp o => decide (o.y = .fy .qOp) && o.oneIBRead
  | .fyCycle o => decide (o.y = .fy .cycle) && o.oneIBRead
  | .fyQCycle o => decide (o.y = .fy .qCycle) && o.oneIBRead
  | .fyBlock o => decide (o.y = .fy .block) && o.oneIBRead
  | .fyMap o => decide (o.y = .fy .map) && o.oneIBRead
  | .fyReserved6 w => rowBits 0x00000CF00000 0x000000600000 w
  | .fyReserved7 w => rowBits 0x00000CF00000 0x000000700000 w
  | .fyReserved8 w => rowBits 0x00000CF00000 0x000000800000 w
  | .fyReserved9 w => rowBits 0x00000CF00000 0x000000900000 w
  | .fyReserved10 w => rowBits 0x00000CF00000 0x000000A00000 w
  | .fyReserved11 w => rowBits 0x00000CF00000 0x000000B00000 w
  | .fyReserved12 w => rowBits 0x00000CF00000 0x000000C00000 w
  | .fyReserved13 w => rowBits 0x00000CF00000 0x000000D00000 w
  | .fyReserved14 w => rowBits 0x00000CF00000 0x000000E00000 w
  | .fyReserved15 w => rowBits 0x00000CF00000 0x000000F00000 w
  | .bdNegBr o => decide (o.y = .bd .negBr) && o.oneIBRead
  | .bdZeroBr o => decide (o.y = .bd .zeroBr) && o.oneIBRead
  | .bdNZeroBr o => decide (o.y = .bd .nZeroBr) && o.oneIBRead
  | .bdIntBr o => decide (o.y = .bd .intBr) && o.oneIBRead
  | .bdPgCarryBr o => decide (o.y = .bd .pgCarryBr) && o.oneIBRead
  | .bdCarryBr o => decide (o.y = .bd .carryBr) && o.oneIBRead
  | .bdXRefBr o => decide (o.y = .bd .xRefBr) && o.oneIBRead
  | .bdNibCarryBr o => decide (o.y = .bd .nibCarryBr) && o.oneIBRead
  | .bdYDisp o => decide (o.y = .bd .yDisp) && o.oneIBRead
  | .bdYIODisp o => decide (o.y = .bd .yIODisp) && o.oneIBRead
  | .bdIBDisp o => decide (o.y = .bd .ibDisp) && o.oneIBRead
  | .bdAlwaysIBDisp o => decide (o.y = .bd .alwaysIBDisp) && o.oneIBRead
  | .bdIBPtrDisp o => decide (o.y = .bd .ibPtrDisp) && o.oneIBRead
  | .bdReserved13 w => rowBits 0x00000CF00000 0x000004D00000 w
  | .bdReserved14 w => rowBits 0x00000CF00000 0x000004E00000 w
  | .bdReserved15 w => rowBits 0x00000CF00000 0x000004F00000 w
  | .ioYNOP o => decide (o.y = .io .nop) && o.oneIBRead
  | .ioYIOPOData o => decide (o.y = .io .iopOData) && o.oneIBRead
  | .ioYIOPCtl o => decide (o.y = .io .iopCtl) && o.oneIBRead
  | .ioYDMADone o => decide (o.y = .io .dmaDone) && o.oneIBRead
  | .ioYReserved4 w => rowBits 0x00000CF00000 0x000008400000 w
  | .ioYReserved5 w => rowBits 0x00000CF00000 0x000008500000 w
  | .ioYReserved6 w => rowBits 0x00000CF00000 0x000008600000 w
  | .ioYReserved7 w => rowBits 0x00000CF00000 0x000008700000 w
  | .ioYReserved8 w => rowBits 0x00000CF00000 0x000008800000 w
  | .ioYReserved9 w => rowBits 0x00000CF00000 0x000008900000 w
  | .ioYReserved10 w => rowBits 0x00000CF00000 0x000008A00000 w
  | .ioYReserved11 w => rowBits 0x00000CF00000 0x000008B00000 w
  | .ioYReserved12 w => rowBits 0x00000CF00000 0x000008C00000 w
  | .ioYReserved13 w => rowBits 0x00000CF00000 0x000008D00000 w
  | .ioYReserved14 w => rowBits 0x00000CF00000 0x000008E00000 w
  | .ioYReserved15 w => rowBits 0x00000CF00000 0x000008F00000 w
  | .fsyReserved3 w => rowBits 0x00000C000000 0x00000C000000 w
  | .fxNOP o => decide (o.xz.x? = some .nop) && o.oneIBRead
  | .fxBusU o => decide (o.xz.x? = some .busU) && o.oneIBRead
  | .fxBusRH o => decide (o.xz.x? = some .busRH) && o.oneIBRead
  | .fxBusIB o => decide (o.xz.x? = some .busIB) && o.oneIBRead
  | .fxBusIBNA o => decide (o.xz.x? = some .busIBNA) && o.oneIBRead
  | .fxBusIOP o => decide (o.xz.x? = some .busIOP) && o.oneIBRead
  | .fxBusLink o => decide (o.xz.x? = some .busLink) && o.oneIBRead
  | .fxBusErr o => decide (o.xz.x? = some .busErr) && o.oneIBRead
  | .fxRHWrite o => decide (o.xz.x? = some .rhWrite) && o.oneIBRead
  | .fxIBLoad o => decide (o.xz.x? = some .ibLoad) && o.oneIBRead
  | .fxClrIntErr o => decide (o.xz.x? = some .clrIntErr) && o.oneIBRead
  | .fxReserved11 w => rowBits 0x0000020F0000 0x0000000B0000 w
  | .fxReserved12 w => rowBits 0x0000020F0000 0x0000000C0000 w
  | .fxReserved13 w => rowBits 0x0000020F0000 0x0000000D0000 w
  | .fxReserved14 w => rowBits 0x0000020F0000 0x0000000E0000 w
  | .fxReserved15 w => rowBits 0x0000020F0000 0x0000000F0000 w
  | .fzLink o => o.xz.isLink && o.oneIBRead
  | .fzNOP o => decide (o.xz.z? = some .nop) && o.oneIBRead
  | .fzPush o => decide (o.xz.z? = some .push) && o.oneIBRead
  | .fzPop o => decide (o.xz.z? = some .pop) && o.oneIBRead
  | .fzPop2 o => decide (o.xz.z? = some .pop2) && o.oneIBRead
  | .fzReserved12 w => rowBits 0x00000300F000 0x00000000C000 w
  | .fzReserved13 w => rowBits 0x00000300F000 0x00000000D000 w
  | .fzReserved14 w => rowBits 0x00000300F000 0x00000000E000 w
  | .fzReserved15 w => rowBits 0x00000300F000 0x00000000F000 w
  | .ioZNOP o => decide (o.xz.z? = some (.io .nop)) && o.oneIBRead
  | .ioZIOPOData o => decide (o.xz.z? = some (.io .iopOData)) && o.oneIBRead
  | .ioZIOPCtl o => decide (o.xz.z? = some (.io .iopCtl)) && o.oneIBRead
  | .ioZDMADone o => decide (o.xz.z? = some (.io .dmaDone)) && o.oneIBRead
  | .ioZReserved4 w => rowBits 0x00000300F000 0x000001004000 w
  | .ioZReserved5 w => rowBits 0x00000300F000 0x000001005000 w
  | .ioZReserved6 w => rowBits 0x00000300F000 0x000001006000 w
  | .ioZReserved7 w => rowBits 0x00000300F000 0x000001007000 w
  | .ioZReserved8 w => rowBits 0x00000300F000 0x000001008000 w
  | .ioZReserved9 w => rowBits 0x00000300F000 0x000001009000 w
  | .ioZReserved10 w => rowBits 0x00000300F000 0x00000100A000 w
  | .ioZReserved11 w => rowBits 0x00000300F000 0x00000100B000 w
  | .ioZReserved12 w => rowBits 0x00000300F000 0x00000100C000 w
  | .ioZReserved13 w => rowBits 0x00000300F000 0x00000100D000 w
  | .ioZReserved14 w => rowBits 0x00000300F000 0x00000100E000 w
  | .ioZReserved15 w => rowBits 0x00000300F000 0x00000100F000 w
  | .lit o => o.xz.isLit && o.oneIBRead
  | .fszReserved3 w => rowBits 0x000003000000 0x000003000000 w
  | .invalidBusIBIBDisp w => rowBits 0x00000EFF0000 0x000004A30000 w
  | .invalidBusIBAlwaysIBDisp w => rowBits 0x00000EFF0000 0x000004B30000 w
  | .invalidBusIBNAIBDisp w => rowBits 0x00000EFF0000 0x000004A40000 w
  | .invalidBusIBNAAlwaysIBDisp w => rowBits 0x00000EFF0000 0x000004B40000 w

end Sys2Proof
end

