-- ==== Sys2Proof/Decode.lean ====
section
/-! DEFINITION. Decoding and encoding of the 48-bit microword (spec/30_encoding.md).

`decodeMicroword` reads the fields of 30 R111 and refuses the words of 30 R132. `decode` is total: a valid word
becomes the instruction of one of the opcode-table rows it matches, an invalid word the instruction of the
reserved row that makes it invalid. `encode` writes the word back, from the same tables. -/

namespace Sys2Proof

/-! ### The code tables -/

/-- Source-pair codes (30 R113). -/
def SrcPair.code : SrcPair → BitVec 3
  | .aq => 0#3
  | .ab => 1#3
  | .zq => 2#3
  | .zb => 3#3
  | .za => 4#3
  | .da => 5#3
  | .dq => 6#3
  | .dz => 7#3

/-- The source pair of a code (30 R113). -/
def SrcPair.ofCode : BitVec 3 → SrcPair
  | 0#3 => .aq
  | 1#3 => .ab
  | 2#3 => .zq
  | 3#3 => .zb
  | 4#3 => .za
  | 5#3 => .da
  | 6#3 => .dq
  | _ => .dz

/-- Function codes (30 R114). -/
def AluFn.code : AluFn → BitVec 3
  | .add => 0#3
  | .subr => 1#3
  | .subs => 2#3
  | .or => 3#3
  | .and => 4#3
  | .notrs => 5#3
  | .exor => 6#3
  | .exnor => 7#3

/-- The function of a code (30 R114). -/
def AluFn.ofCode : BitVec 3 → AluFn
  | 0#3 => .add
  | 1#3 => .subr
  | 2#3 => .subs
  | 3#3 => .or
  | 4#3 => .and
  | 5#3 => .notrs
  | 6#3 => .exor
  | _ => .exnor

/-- Destination-control codes (30 R115). -/
def DestCtl.code : DestCtl → BitVec 2
  | .none => 0#2
  | .ram => 1#2
  | .down => 2#2
  | .up => 3#2

/-- The destination control of a code (30 R115). -/
def DestCtl.ofCode : BitVec 2 → DestCtl
  | 0#2 => .none
  | 1#2 => .ram
  | 2#2 => .down
  | _ => .up

/-- Destination codes, `aD` above the complement of the Q-select bit (30 R115). -/
def Dest.code : Dest → BitVec 3
  | .qreg => 0#3
  | .nop => 1#3
  | .rama => 2#3
  | .ramf => 3#3
  | .ramqd => 4#3
  | .ramd => 5#3
  | .ramqu => 6#3
  | .ramu => 7#3

/-- FY codes (30 R126). -/
def FYFn.code : FYFn → BitVec 4
  | .nop => 0#4
  | .qOp => 1#4
  | .cycle => 2#4
  | .qCycle => 3#4
  | .block => 4#4
  | .map => 5#4

/-- The FY function of a code; 6 to 15 are reserved (30 R126, R132 (c)). -/
def FYFn.ofCode : BitVec 4 → Option FYFn
  | 0#4 => some .nop
  | 1#4 => some .qOp
  | 2#4 => some .cycle
  | 3#4 => some .qCycle
  | 4#4 => some .block
  | 5#4 => some .map
  | _ => none

/-- BD codes (30 R129). -/
def BDFn.code : BDFn → BitVec 4
  | .negBr => 0#4
  | .zeroBr => 1#4
  | .nZeroBr => 2#4
  | .intBr => 3#4
  | .pgCarryBr => 4#4
  | .carryBr => 5#4
  | .xRefBr => 6#4
  | .nibCarryBr => 7#4
  | .yDisp => 8#4
  | .yIODisp => 9#4
  | .ibDisp => 10#4
  | .alwaysIBDisp => 11#4
  | .ibPtrDisp => 12#4

/-- The branch or dispatch of a code; 13 to 15 are reserved (30 R129, R132 (d)). -/
def BDFn.ofCode : BitVec 4 → Option BDFn
  | 0#4 => some .negBr
  | 1#4 => some .zeroBr
  | 2#4 => some .nZeroBr
  | 3#4 => some .intBr
  | 4#4 => some .pgCarryBr
  | 5#4 => some .carryBr
  | 6#4 => some .xRefBr
  | 7#4 => some .nibCarryBr
  | 8#4 => some .yDisp
  | 9#4 => some .yIODisp
  | 10#4 => some .ibDisp
  | 11#4 => some .alwaysIBDisp
  | 12#4 => some .ibPtrDisp
  | _ => none

/-- IO codes (30 R130). -/
def IOFn.code : IOFn → BitVec 4
  | .nop => 0#4
  | .iopOData => 1#4
  | .iopCtl => 2#4
  | .dmaDone => 3#4

/-- The I/O function of a code; 4 to 15 are reserved (30 R130, R132 (e), (h)). -/
def IOFn.ofCode : BitVec 4 → Option IOFn
  | 0#4 => some .nop
  | 1#4 => some .iopOData
  | 2#4 => some .iopCtl
  | 3#4 => some .dmaDone
  | _ => none

/-- FX codes (30 R127). -/
def FXFn.code : FXFn → BitVec 4
  | .nop => 0#4
  | .busU => 1#4
  | .busRH => 2#4
  | .busIB => 3#4
  | .busIBNA => 4#4
  | .busIOP => 5#4
  | .busLink => 6#4
  | .busErr => 7#4
  | .rhWrite => 8#4
  | .ibLoad => 9#4
  | .clrIntErr => 10#4

/-- The X function of a code; 11 to 15 are reserved (30 R127, R132 (f)). -/
def FXFn.ofCode : BitVec 4 → Option FXFn
  | 0#4 => some .nop
  | 1#4 => some .busU
  | 2#4 => some .busRH
  | 3#4 => some .busIB
  | 4#4 => some .busIBNA
  | 5#4 => some .busIOP
  | 6#4 => some .busLink
  | 7#4 => some .busErr
  | 8#4 => some .rhWrite
  | 9#4 => some .ibLoad
  | 10#4 => some .clrIntErr
  | _ => none

/-- The Y-selector of a Y field (30 R120). -/
def YField.sel : YField → BitVec 2
  | .fy _ => 0#2
  | .bd _ => 1#2
  | .io _ => 2#2

/-- The code `fY` of a Y field (30 R122). -/
def YField.code : YField → BitVec 4
  | .fy f => f.code
  | .bd f => f.code
  | .io f => f.code

/-- The Y field that a selector and a code name; selector 3 is reserved (30 R120, R132 (a)). -/
def YField.ofCode (sel : BitVec 2) (c : BitVec 4) : Option YField :=
  match sel with
  | 0#2 => (FYFn.ofCode c).map YField.fy
  | 1#2 => (BDFn.ofCode c).map YField.bd
  | 2#2 => (IOFn.ofCode c).map YField.io
  | _ => none

/-- The code `fZ` of a Z field (30 R124). -/
def ZField.code : ZField → BitVec 4
  | .link low => 0#1 ++ low
  | .nop => 8#4
  | .push => 9#4
  | .pop => 10#4
  | .pop2 => 11#4
  | .io f => f.code

/-- The Z-selector of a Z field (30 R121). -/
def ZField.sel : ZField → BitVec 2
  | .io _ => 1#2
  | _ => 0#2

/-- The normal Z function of a code; 0 to 7 are Link, 12 to 15 reserved (30 R128, R132 (g)). -/
def ZField.ofNormalCode (c : BitVec 4) : Option ZField :=
  match c with
  | 8#4 => some .nop
  | 9#4 => some .push
  | 10#4 => some .pop
  | 11#4 => some .pop2
  | _ => if c.getLsbD 3 then none else some (.link (c.extractLsb' 0 3))

/-- The Z-selector of a word's X and Z fields (30 R121). -/
def XZField.sel : XZField → BitVec 2
  | .fn _ z => z.sel
  | .lit _ => 2#2

/-- The bits of `fX`: a code, or the literal's high nibble (30 R123). -/
def XZField.fX : XZField → BitVec 4
  | .fn x _ => x.code
  | .lit b => b.extractLsb' 4 4

/-- The bits of `fZ`: a code, or the literal's low nibble (30 R124). -/
def XZField.fZ : XZField → BitVec 4
  | .fn _ z => z.code
  | .lit b => b.extractLsb' 0 4

/-- What a Z-selector and the two fields hold; selector 3 is reserved (30 R121, R131, R132 (b)). -/
def XZField.ofCode (sel : BitVec 2) (fX fZ : BitVec 4) : Option XZField :=
  match sel with
  | 0#2 =>
    match FXFn.ofCode fX, ZField.ofNormalCode fZ with
    | some x, some z => some (.fn x z)
    | _, _ => none
  | 1#2 =>
    match FXFn.ofCode fX, IOFn.ofCode fZ with
    | some x, some f => some (.fn x (.io f))
    | _, _ => none
  | 2#2 => some (.lit (fX ++ fZ))
  | _ => none

/-! ### Derived values of a word (30 R134) -/

/-- The X function the word runs; a literal word runs none, as FX NOP (41 R201). -/
def XZField.xFn : XZField → FXFn
  | .fn x _ => x
  | .lit _ => .nop

/-- The Z field the word runs; a literal word runs none, as FZ NOP (41 R201). -/
def XZField.zFn : XZField → ZField
  | .fn _ z => z
  | .lit _ => .nop

/-- `qSel`: the Q-select bit of the destination. -/
def Microword.qSel (m : Microword) : Bool :=
  match m.y with
  | .fy .qOp | .fy .qCycle => true
  | _ => false

/-- `cycle`: the cycle-vs-shift flag. -/
def Microword.cycle (m : Microword) : Bool :=
  match m.y with
  | .fy .cycle | .fy .qCycle => true
  | _ => false

/-- `dest`: the destination that `aD` and the Q-select bit form (30 R115). -/
def Microword.dest (m : Microword) : Dest :=
  match m.aD, m.qSel with
  | .none, true => .qreg
  | .none, false => .nop
  | .ram, true => .rama
  | .ram, false => .ramf
  | .down, true => .ramqd
  | .down, false => .ramd
  | .up, true => .ramqu
  | .up, false => .ramu

/-- `isShift`: the destination shifts. -/
def Microword.isShift (m : Microword) : Bool :=
  match m.aD with
  | .down | .up => true
  | _ => false

/-- `needsBus`: the source pair uses the data bus. -/
def Microword.needsBus (m : Microword) : Bool :=
  match m.aS with
  | .da | .dq | .dz => true
  | _ => false

/-- `ibDispatch`: the word is an IBDisp. -/
def Microword.ibDispatch (m : Microword) : Bool := decide (m.y = .bd .ibDisp)

/-- `forceDisp`: the word is an AlwaysIBDisp. -/
def Microword.forceDisp (m : Microword) : Bool := decide (m.y = .bd .alwaysIBDisp)

/-- `ibLoad`: the word appends to the IB. -/
def Microword.ibLoad (m : Microword) : Bool := decide (m.xz.xFn = .ibLoad)

/-- `ptrDecrement`: the word is a BusIB, which consumes an IB byte. -/
def Microword.ptrDecrement (m : Microword) : Bool := decide (m.xz.xFn = .busIB)

/-- The word puts the front byte of the IB on the data bus: BusIB or BusIBNA (41 R207, R208). -/
def Microword.readsIBFront (m : Microword) : Bool :=
  decide (m.xz.xFn = .busIB) || decide (m.xz.xFn = .busIBNA)

/-- `uConstAddr`: the U address of a word without a stack operation (30 R112). -/
def Microword.uConstAddr (m : Microword) : BitVec 8 := m.rA ++ m.rB

/-- `linkAddr`: the link address, bits 3:0 of the next-address field (30 R125). -/
def Microword.linkAddr (m : Microword) : BitVec 4 := m.inia.extractLsb' 0 4

/-- The word names a branch or a dispatch (`fSY = 1`). -/
def Microword.isBD (m : Microword) : Bool :=
  match m.y with
  | .bd _ => true
  | _ => false

/-- `linkOp`: the link condition (43 R298). -/
def Microword.linkOp (m : Microword) : Bool :=
  match m.xz.zFn with
  | .link _ => !m.isBD
  | _ => false

/-- `isMap`: the word is marked as a map reference (42 R246). -/
def Microword.isMap (m : Microword) : Bool := decide (m.y = .fy .map)

/-- Two IB reads in one word: BusIB or BusIBNA with IBDisp or AlwaysIBDisp (30 R133). -/
def Microword.doubleIBRead (m : Microword) : Bool :=
  m.readsIBFront && (m.ibDispatch || m.forceDisp)

/-! ### The word itself -/

/-- The 48 bits of a decoded word, in the field order of 30 R111 and R138. -/
def Microword.encode (m : Microword) : ControlWord :=
  m.rA ++ m.rB ++ m.aS.code ++ m.aF.code ++ m.aD.code ++ BitVec.ofBool m.ep ++ BitVec.ofBool m.cin ++
    BitVec.ofBool m.enSU ++ BitVec.ofBool m.mem ++ m.y.sel ++ m.xz.sel ++ m.y.code ++ m.xz.fX ++ m.xz.fZ ++ m.inia

/-- The decoded word, or `none` when the word is invalid by 30 R132 (a) to (i). -/
def decodeMicroword (w : ControlWord) : Option Microword :=
  match YField.ofCode (w.extractLsb' 26 2) (w.extractLsb' 20 4),
      XZField.ofCode (w.extractLsb' 24 2) (w.extractLsb' 16 4) (w.extractLsb' 12 4) with
  | some y, some xz =>
    let m : Microword :=
      { rA := w.extractLsb' 44 4
        rB := w.extractLsb' 40 4
        aS := SrcPair.ofCode (w.extractLsb' 37 3)
        aF := AluFn.ofCode (w.extractLsb' 34 3)
        aD := DestCtl.ofCode (w.extractLsb' 32 2)
        ep := w.getLsbD 31
        cin := w.getLsbD 30
        enSU := w.getLsbD 29
        mem := w.getLsbD 28
        y := y
        xz := xz
        inia := w.extractLsb' 0 12 }
    if m.doubleIBRead then none else some m
  | _, _ => none

/-- The number of one bits among the low `n` bits of a word. -/
def onesBelow (w : ControlWord) : Nat → Nat
  | 0 => 0
  | n + 1 => (if w.getLsbD n then 1 else 0) + onesBelow w n

/-- The parity check of 30 R136 fails: the word, parity bit included, has the wrong count of ones. -/
def parityFails (mode : ParityMode) (w : ControlWord) : Bool :=
  match mode with
  | .odd => decide (onesBelow w 48 % 2 = 0)
  | .even => decide (onesBelow w 48 % 2 = 1)
  | .off => false

/-! ### The rows of the opcode table over a word: the word with the row's code in the row's field -/

/-- The word with source pair `p` (30 R113). -/
def Microword.asSrc (p : SrcPair) (o : Microword) : Microword := { o with aS := p }

/-- The word with function `f` (30 R114). -/
def Microword.asAlu (f : AluFn) (o : Microword) : Microword := { o with aF := f }

/-- The word with control `c` and the Q-select bit set: its Y field is QOp, or QCycle where it cycled. -/
def Microword.asDestQ (c : DestCtl) (o : Microword) : Microword :=
  { o with aD := c, y := .fy (if o.cycle then .qCycle else .qOp) }

/-- The word with control `c` and the Q-select bit clear: a Q code in its Y field loses its Q. -/
def Microword.asDest (c : DestCtl) (o : Microword) : Microword :=
  { o with
    aD := c
    y := match o.y with
      | .fy .qOp => .fy .nop
      | .fy .qCycle => .fy .cycle
      | y => y }

/-- The word with the cycle bit set: its Y field is Cycle, or QCycle where it selected Q. -/
def Microword.asCycle (o : Microword) : Microword := { o with y := .fy (if o.qSel then .qCycle else .cycle) }

/-- The word with the SU-enable bit set. -/
def Microword.asEnSU (o : Microword) : Microword := { o with enSU := true }

/-- The word with the memory-phase bit set. -/
def Microword.asMem (o : Microword) : Microword := { o with mem := true }

/-- The word with Y function `f`. -/
def Microword.asFY (f : FYFn) (o : Microword) : Microword := { o with y := .fy f }

/-- The word with branch or dispatch `f`. -/
def Microword.asBD (f : BDFn) (o : Microword) : Microword := { o with y := .bd f }

/-- The word with I/O function `f` in the Y field. -/
def Microword.asIOY (f : IOFn) (o : Microword) : Microword := { o with y := .io f }

/-- The word with X function `f`; its Z field stays. -/
def Microword.asFX (f : FXFn) (o : Microword) : Microword := { o with xz := .fn f o.xz.zFn }

/-- The word with Z field `z`; its X function stays. -/
def Microword.asZ (z : ZField) (o : Microword) : Microword := { o with xz := .fn o.xz.xFn z }

/-- The word with a Link code; which of the eight stays. -/
def Microword.asLink (o : Microword) : Microword :=
  o.asZ (.link (match o.xz.zFn with | .link low => low | _ => 0#3))

/-- The word with a literal byte; the byte stays. -/
def Microword.asLit (o : Microword) : Microword :=
  { o with xz := .lit (match o.xz with | .lit b => b | .fn _ _ => 0#8) }

/-- What a term denotes: a valid word, or 48 bits that are an invalid word. -/
inductive Body where
  | word (m : Microword)
  | invalid (w : ControlWord)
  deriving DecidableEq, Repr

/-- `w` with the bits under `mask` replaced by the row's. -/
def withRowBits (mask val w : ControlWord) : ControlWord := (w &&& ~~~mask) ||| val

/-- The word a term denotes, row by row of the opcode table. -/
def Instr.body : Instr → Body
  | .microword o => .word o
  | .srcAQ o => .word (o.asSrc .aq)
  | .srcAB o => .word (o.asSrc .ab)
  | .srcZQ o => .word (o.asSrc .zq)
  | .srcZB o => .word (o.asSrc .zb)
  | .srcZA o => .word (o.asSrc .za)
  | .srcDA o => .word (o.asSrc .da)
  | .srcDQ o => .word (o.asSrc .dq)
  | .srcDZ o => .word (o.asSrc .dz)
  | .aluADD o => .word (o.asAlu .add)
  | .aluSUBR o => .word (o.asAlu .subr)
  | .aluSUBS o => .word (o.asAlu .subs)
  | .aluOR o => .word (o.asAlu .or)
  | .aluAND o => .word (o.asAlu .and)
  | .aluNOTRS o => .word (o.asAlu .notrs)
  | .aluEXOR o => .word (o.asAlu .exor)
  | .aluEXNOR o => .word (o.asAlu .exnor)
  | .destQREG o => .word (o.asDestQ .none)
  | .destNOP o => .word (o.asDest .none)
  | .destRAMA o => .word (o.asDestQ .ram)
  | .destRAMF o => .word (o.asDest .ram)
  | .destRAMQD o => .word (o.asDestQ .down)
  | .destRAMD o => .word (o.asDest .down)
  | .destRAMQU o => .word (o.asDestQ .up)
  | .destRAMU o => .word (o.asDest .up)
  | .cycleShift o => .word o.asCycle
  | .enSU o => .word o.asEnSU
  | .memLatch o => .word o.asMem
  | .memWrite o => .word o.asMem
  | .memRead o => .word o.asMem
  | .fyNOP o => .word (o.asFY .nop)
  | .fyQOp o => .word (o.asFY .qOp)
  | .fyCycle o => .word (o.asFY .cycle)
  | .fyQCycle o => .word (o.asFY .qCycle)
  | .fyBlock o => .word (o.asFY .block)
  | .fyMap o => .word (o.asFY .map)
  | .fyReserved6 w => .invalid (withRowBits 0x00000CF00000 0x000000600000 w)
  | .fyReserved7 w => .invalid (withRowBits 0x00000CF00000 0x000000700000 w)
  | .fyReserved8 w => .invalid (withRowBits 0x00000CF00000 0x000000800000 w)
  | .fyReserved9 w => .invalid (withRowBits 0x00000CF00000 0x000000900000 w)
  | .fyReserved10 w => .invalid (withRowBits 0x00000CF00000 0x000000A00000 w)
  | .fyReserved11 w => .invalid (withRowBits 0x00000CF00000 0x000000B00000 w)
  | .fyReserved12 w => .invalid (withRowBits 0x00000CF00000 0x000000C00000 w)
  | .fyReserved13 w => .invalid (withRowBits 0x00000CF00000 0x000000D00000 w)
  | .fyReserved14 w => .invalid (withRowBits 0x00000CF00000 0x000000E00000 w)
  | .fyReserved15 w => .invalid (withRowBits 0x00000CF00000 0x000000F00000 w)
  | .bdNegBr o => .word (o.asBD .negBr)
  | .bdZeroBr o => .word (o.asBD .zeroBr)
  | .bdNZeroBr o => .word (o.asBD .nZeroBr)
  | .bdIntBr o => .word (o.asBD .intBr)
  | .bdPgCarryBr o => .word (o.asBD .pgCarryBr)
  | .bdCarryBr o => .word (o.asBD .carryBr)
  | .bdXRefBr o => .word (o.asBD .xRefBr)
  | .bdNibCarryBr o => .word (o.asBD .nibCarryBr)
  | .bdYDisp o => .word (o.asBD .yDisp)
  | .bdYIODisp o => .word (o.asBD .yIODisp)
  | .bdIBDisp o => .word (o.asBD .ibDisp)
  | .bdAlwaysIBDisp o => .word (o.asBD .alwaysIBDisp)
  | .bdIBPtrDisp o => .word (o.asBD .ibPtrDisp)
  | .bdReserved13 w => .invalid (withRowBits 0x00000CF00000 0x000004D00000 w)
  | .bdReserved14 w => .invalid (withRowBits 0x00000CF00000 0x000004E00000 w)
  | .bdReserved15 w => .invalid (withRowBits 0x00000CF00000 0x000004F00000 w)
  | .ioYNOP o => .word (o.asIOY .nop)
  | .ioYIOPOData o => .word (o.asIOY .iopOData)
  | .ioYIOPCtl o => .word (o.asIOY .iopCtl)
  | .ioYDMADone o => .word (o.asIOY .dmaDone)
  | .ioYReserved4 w => .invalid (withRowBits 0x00000CF00000 0x000008400000 w)
  | .ioYReserved5 w => .invalid (withRowBits 0x00000CF00000 0x000008500000 w)
  | .ioYReserved6 w => .invalid (withRowBits 0x00000CF00000 0x000008600000 w)
  | .ioYReserved7 w => .invalid (withRowBits 0x00000CF00000 0x000008700000 w)
  | .ioYReserved8 w => .invalid (withRowBits 0x00000CF00000 0x000008800000 w)
  | .ioYReserved9 w => .invalid (withRowBits 0x00000CF00000 0x000008900000 w)
  | .ioYReserved10 w => .invalid (withRowBits 0x00000CF00000 0x000008A00000 w)
  | .ioYReserved11 w => .invalid (withRowBits 0x00000CF00000 0x000008B00000 w)
  | .ioYReserved12 w => .invalid (withRowBits 0x00000CF00000 0x000008C00000 w)
  | .ioYReserved13 w => .invalid (withRowBits 0x00000CF00000 0x000008D00000 w)
  | .ioYReserved14 w => .invalid (withRowBits 0x00000CF00000 0x000008E00000 w)
  | .ioYReserved15 w => .invalid (withRowBits 0x00000CF00000 0x000008F00000 w)
  | .fsyReserved3 w => .invalid (withRowBits 0x00000C000000 0x00000C000000 w)
  | .fxNOP o => .word (o.asFX .nop)
  | .fxBusU o => .word (o.asFX .busU)
  | .fxBusRH o => .word (o.asFX .busRH)
  | .fxBusIB o => .word (o.asFX .busIB)
  | .fxBusIBNA o => .word (o.asFX .busIBNA)
  | .fxBusIOP o => .word (o.asFX .busIOP)
  | .fxBusLink o => .word (o.asFX .busLink)
  | .fxBusErr o => .word (o.asFX .busErr)
  | .fxRHWrite o => .word (o.asFX .rhWrite)
  | .fxIBLoad o => .word (o.asFX .ibLoad)
  | .fxClrIntErr o => .word (o.asFX .clrIntErr)
  | .fxReserved11 w => .invalid (withRowBits 0x0000020F0000 0x0000000B0000 w)
  | .fxReserved12 w => .invalid (withRowBits 0x0000020F0000 0x0000000C0000 w)
  | .fxReserved13 w => .invalid (withRowBits 0x0000020F0000 0x0000000D0000 w)
  | .fxReserved14 w => .invalid (withRowBits 0x0000020F0000 0x0000000E0000 w)
  | .fxReserved15 w => .invalid (withRowBits 0x0000020F0000 0x0000000F0000 w)
  | .fzLink o => .word o.asLink
  | .fzNOP o => .word (o.asZ .nop)
  | .fzPush o => .word (o.asZ .push)
  | .fzPop o => .word (o.asZ .pop)
  | .fzPop2 o => .word (o.asZ .pop2)
  | .fzReserved12 w => .invalid (withRowBits 0x00000300F000 0x00000000C000 w)
  | .fzReserved13 w => .invalid (withRowBits 0x00000300F000 0x00000000D000 w)
  | .fzReserved14 w => .invalid (withRowBits 0x00000300F000 0x00000000E000 w)
  | .fzReserved15 w => .invalid (withRowBits 0x00000300F000 0x00000000F000 w)
  | .ioZNOP o => .word (o.asZ (.io .nop))
  | .ioZIOPOData o => .word (o.asZ (.io .iopOData))
  | .ioZIOPCtl o => .word (o.asZ (.io .iopCtl))
  | .ioZDMADone o => .word (o.asZ (.io .dmaDone))
  | .ioZReserved4 w => .invalid (withRowBits 0x00000300F000 0x000001004000 w)
  | .ioZReserved5 w => .invalid (withRowBits 0x00000300F000 0x000001005000 w)
  | .ioZReserved6 w => .invalid (withRowBits 0x00000300F000 0x000001006000 w)
  | .ioZReserved7 w => .invalid (withRowBits 0x00000300F000 0x000001007000 w)
  | .ioZReserved8 w => .invalid (withRowBits 0x00000300F000 0x000001008000 w)
  | .ioZReserved9 w => .invalid (withRowBits 0x00000300F000 0x000001009000 w)
  | .ioZReserved10 w => .invalid (withRowBits 0x00000300F000 0x00000100A000 w)
  | .ioZReserved11 w => .invalid (withRowBits 0x00000300F000 0x00000100B000 w)
  | .ioZReserved12 w => .invalid (withRowBits 0x00000300F000 0x00000100C000 w)
  | .ioZReserved13 w => .invalid (withRowBits 0x00000300F000 0x00000100D000 w)
  | .ioZReserved14 w => .invalid (withRowBits 0x00000300F000 0x00000100E000 w)
  | .ioZReserved15 w => .invalid (withRowBits 0x00000300F000 0x00000100F000 w)
  | .lit o => .word o.asLit
  | .fszReserved3 w => .invalid (withRowBits 0x000003000000 0x000003000000 w)
  | .invalidBusIBIBDisp w => .invalid (withRowBits 0x00000EFF0000 0x000004A30000 w)
  | .invalidBusIBAlwaysIBDisp w => .invalid (withRowBits 0x00000EFF0000 0x000004B30000 w)
  | .invalidBusIBNAIBDisp w => .invalid (withRowBits 0x00000EFF0000 0x000004A40000 w)
  | .invalidBusIBNAAlwaysIBDisp w => .invalid (withRowBits 0x00000EFF0000 0x000004B40000 w)

/-- The encoder: the 48 bits of an instruction. -/
def encode (i : Instr) : ControlWord :=
  match i.body with
  | .word m => m.encode
  | .invalid w => w

/-! ### Naming a word

A valid word matches one row in each field group (log 10). The decoder answers ONE of the rows the word
matches; which one has no effect on what the machine does, since every row's meaning runs the whole word. The
order: the Y field's code, then the X and Z fields', then the memory and SU bits, then the ALU's codes; a word
whose codes are all zero or the assembler's defaults (30 R137) is named by `namePlain`. -/

/-- The row of a branch or dispatch code. -/
def nameBD (m : Microword) : BDFn → Instr
  | .negBr => .bdNegBr m
  | .zeroBr => .bdZeroBr m
  | .nZeroBr => .bdNZeroBr m
  | .intBr => .bdIntBr m
  | .pgCarryBr => .bdPgCarryBr m
  | .carryBr => .bdCarryBr m
  | .xRefBr => .bdXRefBr m
  | .nibCarryBr => .bdNibCarryBr m
  | .yDisp => .bdYDisp m
  | .yIODisp => .bdYIODisp m
  | .ibDisp => .bdIBDisp m
  | .alwaysIBDisp => .bdAlwaysIBDisp m
  | .ibPtrDisp => .bdIBPtrDisp m

/-- The row of an I/O code in the Y field. -/
def nameIOY (m : Microword) : IOFn → Instr
  | .nop => .ioYNOP m
  | .iopOData => .ioYIOPOData m
  | .iopCtl => .ioYIOPCtl m
  | .dmaDone => .ioYDMADone m

/-- The row of an I/O code in the Z field. -/
def nameIOZ (m : Microword) : IOFn → Instr
  | .nop => .ioZNOP m
  | .iopOData => .ioZIOPOData m
  | .iopCtl => .ioZIOPCtl m
  | .dmaDone => .ioZDMADone m

/-- The row of a word all of whose codes are zero or the assembler's defaults. The bare defaults are MICROWORD
(30 R137); the word of all-zero codes is an FZ.Link. -/
def namePlain (m : Microword) : Instr :=
  match decide (m.aS = .dz), m.xz.isLink, m.cin with
  | true, false, false => .microword m
  | true, false, true => .fxNOP m
  | true, true, false => .srcDZ m
  | true, true, true => .fyNOP m
  | false, false, false => .fzNOP m
  | false, false, true => .srcAQ m
  | false, true, false => .fzLink m
  | false, true, true => .aluADD m

/-- The row of a word named by its source pair, when its function is ADD. -/
def nameSrc (m : Microword) : Instr :=
  match m.aS with
  | .ab => .srcAB m
  | .zq => .srcZQ m
  | .zb => .srcZB m
  | .za => .srcZA m
  | .da => .srcDA m
  | .dq => .srcDQ m
  | .aq | .dz => namePlain m

/-- The row of a word without a destination and without any other function: its function code, or DEST.NOP
where it has both a function and a source code. -/
def nameFn (m : Microword) : Instr :=
  match m.aF, decide (m.aS = .aq) with
  | .add, _ => nameSrc m
  | .subr, true => .aluSUBR m
  | .subs, true => .aluSUBS m
  | .or, true => .aluOR m
  | .and, true => .aluAND m
  | .notrs, true => .aluNOTRS m
  | .exor, true => .aluEXOR m
  | .exnor, true => .aluEXNOR m
  | _, false => .destNOP m

/-- The row of a word whose Y, X and Z fields name no function: the memory row of the phase (the three rows
share their bits; 44 R321 to R323), ENSU, or an ALU row. -/
def nameDatapath (ph : Phase) (m : Microword) : Instr :=
  if m.mem then
    match ph with
    | .c1 => .memLatch m
    | .c2 => .memWrite m
    | .c3 => .memRead m
  else if m.enSU then .enSU m
  else
    match m.aD with
    | .ram => .destRAMF m
    | .down => .destRAMD m
    | .up => .destRAMU m
    | .none => nameFn m

/-- The row of a word whose Y field is FY NOP. -/
def nameXZ (ph : Phase) (m : Microword) : Instr :=
  match m.xz with
  | .lit _ => .lit m
  | .fn .busU _ => .fxBusU m
  | .fn .busRH _ => .fxBusRH m
  | .fn .busIB _ => .fxBusIB m
  | .fn .busIBNA _ => .fxBusIBNA m
  | .fn .busIOP _ => .fxBusIOP m
  | .fn .busLink _ => .fxBusLink m
  | .fn .busErr _ => .fxBusErr m
  | .fn .rhWrite _ => .fxRHWrite m
  | .fn .ibLoad _ => .fxIBLoad m
  | .fn .clrIntErr _ => .fxClrIntErr m
  | .fn .nop .push => .fzPush m
  | .fn .nop .pop => .fzPop m
  | .fn .nop .pop2 => .fzPop2 m
  | .fn .nop (.io f) => nameIOZ m f
  | .fn .nop (.link _) | .fn .nop .nop => nameDatapath ph m

/-- The row of a word whose Y field is QOp, Cycle or QCycle: CYCLE where a shift rotates, the destination that
the Q-select bit chooses, or the Y code itself. -/
def nameQCycle (m : Microword) : Instr :=
  match m.aD, m.qSel, m.cycle with
  | .down, _, true | .up, _, true => .cycleShift m
  | .down, _, false => .destRAMQD m
  | .up, _, false => .destRAMQU m
  | .ram, true, _ => .destRAMA m
  | .none, true, false => if m.aS = .aq then .fyQOp m else .destQREG m
  | .none, true, true => .fyQCycle m
  | .none, false, _ | .ram, false, _ => .fyCycle m

/-- The row that names a valid word. -/
def nameWord (ph : Phase) (m : Microword) : Instr :=
  match m.y with
  | .bd f => nameBD m f
  | .io f => nameIOY m f
  | .fy .block => .fyBlock m
  | .fy .map => .fyMap m
  | .fy .nop => nameXZ ph m
  | .fy .qOp | .fy .cycle | .fy .qCycle => nameQCycle m

/-- The reserved row of an FY code from 6 up (30 R132 (c)). -/
def nameReservedFY (w : ControlWord) : BitVec 4 → Instr
  | 6#4 => .fyReserved6 w
  | 7#4 => .fyReserved7 w
  | 8#4 => .fyReserved8 w
  | 9#4 => .fyReserved9 w
  | 10#4 => .fyReserved10 w
  | 11#4 => .fyReserved11 w
  | 12#4 => .fyReserved12 w
  | 13#4 => .fyReserved13 w
  | 14#4 => .fyReserved14 w
  | _ => .fyReserved15 w

/-- The reserved row of a BD code from 13 up (30 R132 (d)). -/
def nameReservedBD (w : ControlWord) : BitVec 4 → Instr
  | 13#4 => .bdReserved13 w
  | 14#4 => .bdReserved14 w
  | _ => .bdReserved15 w

/-- The reserved row of an IO code from 4 up in the Y field (30 R132 (e)). -/
def nameReservedIOY (w : ControlWord) : BitVec 4 → Instr
  | 4#4 => .ioYReserved4 w
  | 5#4 => .ioYReserved5 w
  | 6#4 => .ioYReserved6 w
  | 7#4 => .ioYReserved7 w
  | 8#4 => .ioYReserved8 w
  | 9#4 => .ioYReserved9 w
  | 10#4 => .ioYReserved10 w
  | 11#4 => .ioYReserved11 w
  | 12#4 => .ioYReserved12 w
  | 13#4 => .ioYReserved13 w
  | 14#4 => .ioYReserved14 w
  | _ => .ioYReserved15 w

/-- The reserved row of an FX code from 11 up (30 R132 (f)). -/
def nameReservedFX (w : ControlWord) : BitVec 4 → Instr
  | 11#4 => .fxReserved11 w
  | 12#4 => .fxReserved12 w
  | 13#4 => .fxReserved13 w
  | 14#4 => .fxReserved14 w
  | _ => .fxReserved15 w

/-- The reserved row of an FZ code from 12 up (30 R132 (g)). -/
def nameReservedFZ (w : ControlWord) : BitVec 4 → Instr
  | 12#4 => .fzReserved12 w
  | 13#4 => .fzReserved13 w
  | 14#4 => .fzReserved14 w
  | _ => .fzReserved15 w

/-- The reserved row of an IO code from 4 up in the Z field (30 R132 (h)). -/
def nameReservedIOZ (w : ControlWord) : BitVec 4 → Instr
  | 4#4 => .ioZReserved4 w
  | 5#4 => .ioZReserved5 w
  | 6#4 => .ioZReserved6 w
  | 7#4 => .ioZReserved7 w
  | 8#4 => .ioZReserved8 w
  | 9#4 => .ioZReserved9 w
  | 10#4 => .ioZReserved10 w
  | 11#4 => .ioZReserved11 w
  | 12#4 => .ioZReserved12 w
  | 13#4 => .ioZReserved13 w
  | 14#4 => .ioZReserved14 w
  | _ => .ioZReserved15 w

/-- The row of a word with two IB reads, by its X and Y codes (30 R133). -/
def nameDoubleIBRead (w : ControlWord) : Instr :=
  match decide (w.extractLsb' 16 4 = 3#4), decide (w.extractLsb' 20 4 = 10#4) with
  | true, true => .invalidBusIBIBDisp w
  | true, false => .invalidBusIBAlwaysIBDisp w
  | false, true => .invalidBusIBNAIBDisp w
  | false, false => .invalidBusIBNAAlwaysIBDisp w

/-- The row that makes a word invalid: the first clause of 30 R132 that holds, in the rule's order. -/
def nameInvalid (w : ControlWord) : Instr :=
  let fSY := w.extractLsb' 26 2
  let fSZ := w.extractLsb' 24 2
  let fY := w.extractLsb' 20 4
  let fX := w.extractLsb' 16 4
  let fZ := w.extractLsb' 12 4
  if fSY = 3#2 then .fsyReserved3 w
  else if fSZ = 3#2 then .fszReserved3 w
  else if fSY = 0#2 ∧ 6 ≤ fY.toNat then nameReservedFY w fY
  else if fSY = 1#2 ∧ 13 ≤ fY.toNat then nameReservedBD w fY
  else if fSY = 2#2 ∧ 4 ≤ fY.toNat then nameReservedIOY w fY
  else if fSZ ≠ 2#2 ∧ 11 ≤ fX.toNat then nameReservedFX w fX
  else if fSZ = 0#2 ∧ 12 ≤ fZ.toNat then nameReservedFZ w fZ
  else if fSZ = 1#2 ∧ 4 ≤ fZ.toNat then nameReservedIOZ w fZ
  else nameDoubleIBRead w

/-- The decoder, total on 48-bit words. The word it denotes does not depend on the phase (30 R135); the phase
only chooses which of the three MEM rows names a word. -/
def decode (ph : Phase) (w : ControlWord) : Instr :=
  match decodeMicroword w with
  | some m => nameWord ph m
  | none => nameInvalid w

/-- The instruction of a word given as the opcode table numbers its bits; phase c1 is the phase after reset. No
word is longer than 48 bits. -/
def decodeTableWord (nbits w : Nat) : Option Instr :=
  if w % 2 ^ nbits < 2 ^ 48 then some (decode .c1 (BitVec.ofNat 48 (w % 2 ^ nbits))) else none

end Sys2Proof
end

