-- ==== Sys2Proof/Machine/State.lean ====
section
/-! DEFINITION. The state of the gcasa/D core (spec/10_state.md), the reasons a step stops, and the state after
reset (70 R450).

All data: no field is a function. The fields of the spec come first, its parameters after them; the last five hold
the inputs and outputs that the spec gives a step (45 R350, R360), since a step of this interface takes and returns a
state only. -/

namespace Sys2Proof.Machine

/-- A register: its value and whether anything has written it since reset (10 R42). A register that nothing has
written holds a value too, the one `State.reset` names (log 1, log 2). -/
structure Slot (w : Nat) where
  val : BitVec w
  written : Bool
  deriving DecidableEq, Repr

/-- A register file of `2 ^ k` registers of `w` bits, indexed by a `k`-bit field. -/
abbrev RegFile (w k : Nat) := Vector (Slot w) (2 ^ k)

/-- One value for each task (10 R26). -/
structure PerTask (α : Type) where
  emulator : α
  display : α
  ethernet : α
  refresh : α
  disk : α
  iop : α
  iopcs : α
  kernel : α
  deriving DecidableEq, Repr

/-- The same value for every task. -/
def PerTask.all {α : Type} (x : α) : PerTask α := ⟨x, x, x, x, x, x, x, x⟩

/-- The six ALU flags (10 R22). -/
structure Flags where
  z : Bool
  n : Bool
  nc : Bool
  pgc : Bool
  co : Bool
  ovf : Bool
  deriving DecidableEq, Repr

/-- The error-trap register, bit `k` for trap code `k` (10 R34), and the interrupt request (10 R35). -/
structure TrapRegs where
  errPending : BitVec 4
  intReq : Bool
  deriving DecidableEq, Repr

/-- The four wake modes, numbered 0 to 3 in this order (10 R37). -/
inductive WakeMode where
  | disabled | input | output | always
  deriving DecidableEq, Repr

/-- The I/O-processor channel (10 R37). -/
structure Channel where
  iopToCp : Byte
  iopReq : Bool
  cpToIop : Byte
  cpAck : Bool
  dmaMode : Bool
  dmaComplete : Bool
  wakeMode : PerTask WakeMode
  deriving DecidableEq, Repr

/-- The control store: the loaded words, by address, in rising order. A word that is not listed is unloaded
(10 R38). The smallest unit of this store is the 48-bit word (20 R70; log 9). -/
abbrev Memory := List (Nat × ControlWord)

/-- The events on the external memory interface (20 R74). -/
inductive MemEvent where
  | latch (addr : BitVec 24) (isMap : Bool)
  | write (data : Word)
  | read
  deriving DecidableEq, Repr

/-- The operations of the host (45 R360). Each is one step of the model (log 3). -/
inductive HostOp where
  | executeClick (inp : Inputs)
  | writeCS (a w : Nat)
  | setWake (t : Nat) (b : Bool)
  | portRead (p : Byte)
  | portWrite (p v : Byte)
  deriving DecidableEq, Repr

/-- The host faults (45 R365). All are the spec's own stops, so safe. ReadUnwritten, the seventh reason of
the rule, is not raised by this model (log 2). -/
inductive Fault where
  /-- A step that fetched an invalid control word (30 R132). Raised by the reserved rows and by a word with two
  IB reads. Safe. -/
  | invalidControlWord
  /-- A fetch of an unloaded word (20 R71), or a port read of one (60 R424). Safe. -/
  | csUnloaded
  /-- IBLoad into a Full buffer (41 R213), under IB_OVERFLOW = Fault. Safe. -/
  | ibOverflow
  /-- `writeCS` out of range (45 R361). Safe. -/
  | badAddress
  /-- `setWake` of a device task or of no task (45 R362). Safe. -/
  | badTask
  /-- A port address the core does not own, or a read of 0xEE (60 R421, R426). Safe. -/
  | portOutsideCore
  deriving DecidableEq, Repr

/-- The refusals. -/
inductive Refusal where
  /-- An instruction whose meaning is not written. Raised by `exec`'s arm of that instruction only; no arm does.
  Safe. -/
  | notModelled (mnemonic : String)
  deriving DecidableEq, Repr

/-- The state of the core. -/
structure State where
  /-- `RF` (10 R20). -/
  rf : RegFile 16 4
  /-- `Q` (10 R21). -/
  q : Slot 16
  /-- The stored flags (10 R22). -/
  flags : Flags
  /-- `Ylatch` (10 R23). -/
  ylatch : Word
  /-- `RH` (10 R24). -/
  rh : RegFile 8 4
  /-- `U`, whose first sixteen registers are the stack (10 R25). -/
  u : RegFile 16 8
  /-- `TPC` (10 R27). -/
  tpc : PerTask CSAddr
  /-- `Link` (10 R28). -/
  link : PerTask (BitVec 4)
  /-- `Wake` (10 R29). -/
  wake : PerTask Bool
  /-- `cur`; none is Idle (10 R30). -/
  cur : Option Task
  /-- `phase` (10 R31). -/
  phase : Phase
  /-- `stackP` (10 R32). -/
  stackP : BitVec 4
  /-- `IB`, the oldest byte first (10 R33). -/
  ib : List Byte
  /-- `errPending` and `intReq` (10 R34, R35). -/
  trap : TrapRegs
  /-- `pageCross` (10 R36). -/
  pageCross : Bool
  /-- The I/O channel (10 R37). -/
  io : Channel
  /-- `CS` (10 R38). -/
  cs : Memory
  /-- `csStage` (10 R39). -/
  csStage : Vector Byte 6
  /-- `tpcSel` (10 R39). -/
  tpcSel : BitVec 3
  /-- `tpcHi` (10 R39). -/
  tpcHi : BitVec 4
  /-- The parameters PARITY_MODE, TASK_PRIORITY, LOGIC_CARRY and IB_OVERFLOW of this machine (00 R6; log 12 to
  log 15). -/
  params : Params
  /-- The model's own: the inputs of the click that runs (45 R350; log 4). -/
  inp : Inputs
  /-- The model's own: the host operations still to come, first first (45 R360; log 3). -/
  agenda : List HostOp
  /-- The model's own: the memory event of the last click (20 R74; log 6). -/
  event : Option MemEvent
  /-- The model's own: the byte the last port read returned (45 R363; log 6). -/
  reply : Option Byte
  /-- The model's own: the counter at which free values are taken (45 R367; log 5). -/
  draws : Nat
  deriving DecidableEq, Repr

/-- The machine after reset (70 R450). RF, Q, RH and U are unwritten and hold 0, DESIGN CHOICE (log 1); `inp` and
`draws` are the model's (log 4, log 5). The parameters are the defaults of 00 R6; a machine of other parameters is
this state with another `params`. -/
def State.reset : State where
  rf := Vector.replicate (2 ^ 4) ⟨0, false⟩
  q := ⟨0, false⟩
  flags := ⟨false, false, false, false, false, false⟩
  ylatch := 0
  rh := Vector.replicate (2 ^ 4) ⟨0, false⟩
  u := Vector.replicate (2 ^ 8) ⟨0, false⟩
  tpc := PerTask.all 0
  link := PerTask.all 0
  wake := PerTask.all false
  cur := none
  phase := .c1
  stackP := 0
  ib := []
  trap := ⟨0, false⟩
  pageCross := false
  io := ⟨0, false, 0, false, false, false, PerTask.all .disabled⟩
  cs := []
  csStage := Vector.replicate 6 0
  tpcSel := 0
  tpcHi := 0
  params := Config.defaults
  inp := Inputs.zero
  agenda := []
  event := none
  reply := none
  draws := 0

end Sys2Proof.Machine
end

