-- ==== Sys2Proof/Machine/Ops.lean ====
section
/-! DEFINITION. The named operations over registers, the control store, the instruction buffer, the trap
registers and the I/O channel. Taking a trap is `raiseTraps`, the one shared operation of 60 R402; there is no
return from a trap (60 R413), and `clearTraps` is the only way back (60 R404). -/

namespace Sys2Proof.Machine

/-! ### Pieces of a word -/

/-- The low byte `v[7:0]`, the part every byte-taking function uses (20 R76). -/
def lowByte (v : Word) : Byte := v.extractLsb' 0 8

/-- A byte on the data bus: zext16 (41 R200). -/
def busOfByte (b : Byte) : Word := b.setWidth 16

/-- The address term whose bit 0 is the condition `c` (43 R281). -/
def condBit (c : Bool) : CSAddr := (BitVec.ofBool c).setWidth 12

/-! ### Registers -/

/-- A register's value. A register that nothing has written reads as the value it was given at reset: reading
never faults (log 2). -/
def RegFile.read {w k : Nat} (f : RegFile w k) (i : BitVec k) : BitVec w := (f[i.toNat]'i.isLt).val

/-- Write a register; from now on it holds a value. -/
def RegFile.write {w k : Nat} (f : RegFile w k) (i : BitVec k) (x : BitVec w) : RegFile w k :=
  f.set i.toNat ⟨x, true⟩ i.isLt

/-- What an accessor shows of a register: no value until something writes it (45 R364). -/
def Slot.peek {w : Nat} (r : Slot w) : Option (BitVec w) := if r.written then some r.val else none

/-- What an accessor shows of a register of a file (45 R364). -/
def RegFile.peek {w k : Nat} (f : RegFile w k) (i : BitVec k) : Option (BitVec w) := (f[i.toNat]'i.isLt).peek

/-! ### Tasks -/

/-- The task of a 3-bit number (10 R26). -/
def taskOfCode : BitVec 3 → Task
  | 0#3 => .emulator
  | 1#3 => .display
  | 2#3 => .ethernet
  | 3#3 => .refresh
  | 4#3 => .disk
  | 5#3 => .iop
  | 6#3 => .iopcs
  | _ => .kernel

/-- The task's own value. -/
def PerTask.get {α : Type} (p : PerTask α) : Task → α
  | .emulator => p.emulator
  | .display => p.display
  | .ethernet => p.ethernet
  | .refresh => p.refresh
  | .disk => p.disk
  | .iop => p.iop
  | .iopcs => p.iopcs
  | .kernel => p.kernel

/-- Replace one task's value. -/
def PerTask.set {α : Type} (p : PerTask α) (t : Task) (x : α) : PerTask α :=
  match t with
  | .emulator => { p with emulator := x }
  | .display => { p with display := x }
  | .ethernet => { p with ethernet := x }
  | .refresh => { p with refresh := x }
  | .disk => { p with disk := x }
  | .iop => { p with iop := x }
  | .iopcs => { p with iopcs := x }
  | .kernel => { p with kernel := x }

/-- The tasks whose wakeup flag is a device input (10 R29). -/
def isDeviceTask : Task → Bool
  | .display | .ethernet | .refresh | .disk => true
  | _ => false

/-- The wake mode of a 2-bit number (10 R37). -/
def wakeModeOfCode : BitVec 2 → WakeMode
  | 0#2 => .disabled
  | 1#2 => .input
  | 2#2 => .output
  | _ => .always

/-- The next phase (45 R351). -/
def phaseSucc : Phase → Phase
  | .c1 => .c2
  | .c2 => .c3
  | .c3 => .c1

/-! ### The control store -/

/-- The word at an address; none when it is unloaded (20 R71). -/
def Memory.read : Memory → Nat → Option ControlWord
  | [], _ => none
  | (b, w) :: rest, a => if a = b then some w else Memory.read rest a

/-- Load a word; the list keeps rising order, one entry an address (45 R361). -/
def Memory.write : Memory → Nat → ControlWord → Memory
  | [], a, w => [(a, w)]
  | (b, x) :: rest, a, w =>
    if a < b then (a, w) :: (b, x) :: rest
    else if a = b then (a, w) :: rest
    else (b, x) :: Memory.write rest a w

/-- The entries rise strictly from `lo` and stay below 4096. -/
def Memory.wfFrom : Nat → Memory → Bool
  | _, [] => true
  | lo, (a, _) :: rest => decide (lo ≤ a) && decide (a < 4096) && Memory.wfFrom (a + 1) rest

/-- The canonical form of a control store: addresses strictly rising, all in 0 to 4095. An unlisted address is
unloaded and reads as no word, so no entry equals what an unlisted address reads as. -/
def Memory.wf (m : Memory) : Bool := Memory.wfFrom 0 m

/-! ### The instruction buffer -/

/-- Append a byte at the back: into a buffer with room, or as IB_OVERFLOW says (41 R213). `none` is the host
fault. -/
def ibAppend (policy : IBOverflowPolicy) (q : List Byte) (b : Byte) : Option (List Byte) :=
  if q.length < 3 then some (q ++ [b])
  else
    match policy with
    | .fault => none
    | .discard => some q

/-! ### Traps and the interrupt request -/

/-- A set of trap codes, one bit a code (60 R401): ControlStoreParity 0, EmulatorMemoryError 1,
StackOverUnderflow 2, IBEmpty 3. -/
def trapSet (parity memErr stack ibEmpty : Bool) : BitVec 4 :=
  BitVec.ofBool ibEmpty ++ BitVec.ofBool stack ++ BitVec.ofBool memErr ++ BitVec.ofBool parity

/-- Taking traps, the one shared operation (60 R402): the codes join the pending set, and any code requests an
interrupt. Nothing else changes: no vector, no saved pc, no mode (60 R400, R409). -/
def raiseTraps (traps : BitVec 4) (r : TrapRegs) : TrapRegs :=
  { errPending := r.errPending ||| traps, intReq := r.intReq || decide (traps ≠ 0) }

/-- The clear of ClrIntErr (60 R404). -/
def clearTraps : TrapRegs := { errPending := 0, intReq := false }

/-- The error code as it is read: the smallest pending code, 4 for none (60 R403). -/
def errRead (pending : BitVec 4) : BitVec 3 :=
  if pending.getLsbD 0 then 0
  else if pending.getLsbD 1 then 1
  else if pending.getLsbD 2 then 2
  else if pending.getLsbD 3 then 3
  else 4

/-! ### The stack pointer -/

/-- The stack pointer after the word's stack operation, modulo 16 (42 R253 to R255). -/
def stackNext (z : ZField) (sp : BitVec 4) : BitVec 4 :=
  match z with
  | .push => sp + 1
  | .pop => sp - 1
  | .pop2 => sp - 2
  | _ => sp

/-- The boundary test of the word's stack operation fails (42 R256). -/
def stackTrap (z : ZField) (sp : BitVec 4) : Bool :=
  match z with
  | .push => decide (sp = 15)
  | .pop => decide (sp = 0)
  | .pop2 => decide (sp = 0) || decide (sp = 1)
  | _ => false

/-! ### The I/O channel -/

/-- An I/O function on the channel, with the ALU output `y` (42 R259 to R262). -/
def ioApply (f : IOFn) (y : Word) (c : Channel) : Channel :=
  match f with
  | .nop => c
  | .iopOData => { c with cpToIop := lowByte y, cpAck := true }
  | .iopCtl =>
    { c with wakeMode := c.wakeMode.set (taskOfCode (y.extractLsb' 4 3)) (wakeModeOfCode (y.extractLsb' 0 2)) }
  | .dmaDone => { c with dmaComplete := true }

/-- The CP takes the IOP's byte (41 R209). -/
def iopTake (c : Channel) : Channel := { c with iopReq := false }

/-! ### The idle click -/

/-- A click with no task awake, after selection (45 R356): the page-cross flag is taken, the phase advances,
and nothing is emitted. -/
def idleClick (s : State) : State :=
  { s with cur := none, pageCross := false, phase := phaseSucc s.phase, event := none, draws := s.draws + 1 }

end Sys2Proof.Machine
end

