-- ==== Sys2Proof/Machine/Flags.lean ====
section
/-! DEFINITION. The ALU's function result and its flags (40 R159 to R176): the nibble tables, the chain of four
nibbles, and the six flags. -/

namespace Sys2Proof.Machine

/-! ### The function result -/

/-- The result `F` of a function on its two operands and the carry-in (40 R160 to R167). -/
def aluResult (f : AluFn) (r s : Word) (cin : Bool) : Word :=
  match f with
  | .add => r + s + (BitVec.ofBool cin).setWidth 16
  | .subr => s + ~~~r + (BitVec.ofBool cin).setWidth 16
  | .subs => r + ~~~s + (BitVec.ofBool cin).setWidth 16
  | .or => r ||| s
  | .and => r &&& s
  | .notrs => ~~~r &&& s
  | .exor => r ^^^ s
  | .exnor => ~~~(r ^^^ s)

/-! ### The nibble tables -/

/-- A nibble table: carry out and overflow of one 4-bit slice (40 R168). -/
abbrev NibbleTable := BitVec 4 → BitVec 4 → Bool → Bool × Bool

/-- The arithmetic table (40 R169): bit 4 of the nibble sum, and the carry into bit 3 xor that carry. -/
def arithTable : NibbleTable := fun r s c =>
  let carry := (r.toNat + s.toNat + c.toNat).testBit 4
  let c3 := (r.toNat % 8 + s.toNat % 8 + c.toNat).testBit 3
  (carry, c3 ^^ carry)

/-- The OR table (40 R170). UNVERIFIED, log 14: general knowledge of the Am2901, not in the source. -/
def orTable : NibbleTable := fun r s c =>
  let carry := decide (r ||| s ≠ 15#4) || c
  (carry, carry)

/-- The AND table (40 R171). UNVERIFIED, log 14. -/
def andTable : NibbleTable := fun r s c =>
  let carry := decide (r &&& s ≠ 0#4) || c
  (carry, carry)

/-- The AND-NOT table of NOTRS (40 R172): the AND table on the complemented nibble. UNVERIFIED, log 14. -/
def notrsTable : NibbleTable := fun r s c => andTable (~~~r) s c

/-- The XNOR table of EXNOR (40 R173). UNVERIFIED, log 14. -/
def exnorTable : NibbleTable := fun r s c =>
  let p := r ||| s
  let g := r &&& s
  let p0 := p.getLsbD 0
  let p1 := p.getLsbD 1
  let p2 := p.getLsbD 2
  let p3 := p.getLsbD 3
  let g0 := g.getLsbD 0
  let g1 := g.getLsbD 1
  let g2 := g.getLsbD 2
  let g3 := g.getLsbD 3
  let carry := !(g3 || (p3 && g2) || (p3 && p2 && g1) || (p3 && p2 && p1 && p0 && (g0 || !c)))
  let x2 := !p2 || (!g2 && !p1) || (!g2 && !g1 && !p0) || (!g2 && !g1 && !g0 && c)
  let x3 := !p3 || (!g3 && !p2) || (!g3 && !g2 && !p1) || (!g3 && !g2 && !g1 && !p0) ||
    (!g3 && !g2 && !g1 && !g0 && c)
  (carry, x2 ^^ x3)

/-- The XOR table of EXOR (40 R174): the XNOR table on the complemented nibble. UNVERIFIED, log 14. -/
def exorTable : NibbleTable := fun r s c => exnorTable (~~~r) s c

/-- A table given as data, read at the index `{r, s, c}` (log 14). -/
def rowsTable (rows : NibbleRows) : NibbleTable := fun r s c => rows[(r ++ s ++ BitVec.ofBool c).toNat]

/-- The table of a function. LOGIC_CARRY chooses those of the five logic functions: the Am2901 equations of 40 R170
to R174, its default, or its own rows; the arithmetic table is no part of it (40 R169, R189; log 14). -/
def tableOf (lc : LogicCarry) (f : AluFn) : NibbleTable :=
  match f, lc with
  | .add, _ | .subr, _ | .subs, _ => arithTable
  | .or, .am2901 => orTable
  | .and, .am2901 => andTable
  | .notrs, .am2901 => notrsTable
  | .exor, .am2901 => exorTable
  | .exnor, .am2901 => exnorTable
  | .or, .tables t => rowsTable t.orT
  | .and, .tables t => rowsTable t.andT
  | .notrs, .tables t => rowsTable t.notrsT
  | .exor, .tables t => rowsTable t.exorT
  | .exnor, .tables t => rowsTable t.exnorT

/-! ### The chain -/

/-- The R operand as the function's table is indexed by it: complemented for SUBR (40 R159). The tables of NOTRS
and EXOR complement it themselves (40 R172, R174). -/
def chainR (f : AluFn) (r : Word) : Word :=
  match f with
  | .subr => ~~~r
  | _ => r

/-- The S operand as the function's table is indexed by it: complemented for SUBS (40 R159). -/
def chainS (f : AluFn) (s : Word) : Word :=
  match f with
  | .subs => ~~~s
  | _ => s

/-- Nibble `k` of a word. -/
def nibble (v : Word) (k : Nat) : BitVec 4 := v.extractLsb' (4 * k) 4

/-- The carry into nibble `k` of a chain that starts with `cin` (40 R168): the value `c[k]`. -/
def chainCarry (tab : NibbleTable) (r s : Word) (cin : Bool) : Nat → Bool
  | 0 => cin
  | k + 1 => (tab (nibble r k) (nibble s k) (chainCarry tab r s cin k)).1

/-- The overflow of nibble `k` of the chain: the value `v[k]` (40 R168). -/
def chainOverflow (tab : NibbleTable) (r s : Word) (cin : Bool) (k : Nat) : Bool :=
  (tab (nibble r k) (nibble s k) (chainCarry tab r s cin k)).2

/-- The six flags of a function on its operands (40 R168, R175): Z and N of the unshifted result, the carries
out of nibbles 0, 1 and 3, and the overflow of nibble 3. -/
def aluFlags (lc : LogicCarry) (f : AluFn) (r s : Word) (cin : Bool) : Flags :=
  let tab := tableOf lc f
  let r' := chainR f r
  let s' := chainS f s
  { z := decide (aluResult f r s cin = 0)
    n := (aluResult f r s cin).getLsbD 15
    nc := chainCarry tab r' s' cin 1
    pgc := chainCarry tab r' s' cin 2
    co := chainCarry tab r' s' cin 4
    ovf := chainOverflow tab r' s' cin 3 }

end Sys2Proof.Machine
end

