-- ==== Sys2Proof/Machine/Operands.lean ====
section
/-! DEFINITION. The operand forms of a microword, all read at the start of the step (45 R357): the U address, the
data bus, the source pairs, the ALU output and what each destination writes. -/

namespace Sys2Proof.Machine

/-- The U address of a step (42 R250): the new top for Push, the old top for Pop and Pop2, the register fields
otherwise. -/
def uAddr (m : Microword) (s : State) : BitVec 8 :=
  match m.xz.zFn with
  | .push => (s.stackP + 1).setWidth 8
  | .pop | .pop2 => s.stackP.setWidth 8
  | _ => m.uConstAddr

/-- The front byte of the IB as BusIB and BusIBNA see it; on an Empty buffer a free value (41 R207, R208;
log 5). -/
def ibFront (s : State) : Byte :=
  match s.ib with
  | [] => Config.drawnIBByte s.draws
  | b :: _ => b

/-- The data bus `D` (41 R200), in the order of the rule: the literal, the X function's bus source, the external
bus. -/
def busD (m : Microword) (t : Task) (s : State) : Word :=
  match m.xz with
  | .lit b => busOfByte b
  | .fn .busU _ => s.u.read (uAddr m s)
  | .fn .busRH _ => busOfByte (s.rh.read m.rA)
  | .fn .busIB _ => busOfByte (ibFront s)
  | .fn .busIBNA _ => busOfByte (ibFront s)
  | .fn .busIOP _ => busOfByte s.io.iopToCp
  | .fn .busLink _ => (s.link.get t).setWidth 16
  | .fn .busErr _ => (errRead s.trap.errPending).setWidth 16
  | .fn _ _ => s.inp.extBus

/-- `A = RF[rA]` (40 R150). -/
def regA (m : Microword) (s : State) : Word := s.rf.read m.rA

/-- `B = RF[rB]` (40 R150). -/
def regB (m : Microword) (s : State) : Word := s.rf.read m.rB

/-- The operand `R` of the source pair (40 R151 to R158). -/
def operandR (m : Microword) (t : Task) (s : State) : Word :=
  match m.aS with
  | .aq | .ab => regA m s
  | .zq | .zb | .za => 0
  | .da | .dq | .dz => busD m t s

/-- The operand `S` of the source pair (40 R151 to R158). -/
def operandS (m : Microword) (s : State) : Word :=
  match m.aS with
  | .aq | .zq | .dq => s.q.val
  | .ab | .zb => regB m s
  | .za | .da => regA m s
  | .dz => 0

/-- `F`, the ALU function output before any shift (40 R160 to R167). -/
def outF (m : Microword) (t : Task) (s : State) : Word :=
  aluResult m.aF (operandR m t s) (operandS m s) m.cin

/-- The six flags of the step's own ALU operation, under the machine's LOGIC_CARRY (40 R175, R189). -/
def outFlags (m : Microword) (t : Task) (s : State) : Flags :=
  aluFlags s.params.logicCarry m.aF (operandR m t s) (operandS m s) m.cin

/-- `Y`, the ALU output: `A` for RAMA, `F` otherwise (40 R177). -/
def outY (m : Microword) (t : Task) (s : State) : Word :=
  match m.dest with
  | .rama => regA m s
  | _ => outF m t s

/-- A right shift by one with the bit that enters at the top. -/
def shiftDown (fill : Bool) (v : Word) : Word := BitVec.ofBool fill ++ v.extractLsb' 1 15

/-- A left shift by one with the bit that enters at the bottom. -/
def shiftUp (v : Word) (fill : Bool) : Word := v.extractLsb' 0 15 ++ BitVec.ofBool fill

/-- What a destination writes to `RF[rB]`, from `F`, `Q` and the cycle bit (40 R178 to R186). -/
def destRF (d : Dest) (f q : Word) (cycle : Bool) : Option Word :=
  match d with
  | .qreg | .nop => none
  | .rama | .ramf => some f
  | .ramqd => some (shiftDown (cycle && q.getLsbD 0) f)
  | .ramd => some (shiftDown (cycle && f.getLsbD 0) f)
  | .ramqu => some (shiftUp f (q.getLsbD 15))
  | .ramu => some (shiftUp f (cycle && f.getLsbD 15))

/-- What a destination writes to `Q`, from `F`, `Q` and the cycle bit (40 R178 to R186). -/
def destQ (d : Dest) (f q : Word) (cycle : Bool) : Option Word :=
  match d with
  | .qreg => some f
  | .ramqd => some (shiftDown (f.getLsbD 0) q)
  | .ramqu => some (shiftUp q (cycle && f.getLsbD 15))
  | _ => none

end Sys2Proof.Machine
end

