-- ==== Sys2Proof/Machine/Click.lean ====
section
/-! DEFINITION. What one microword does in the click of a task (45 R351, steps 3 to 9), as one function of each
piece of state: every read is of the state at the start of the click, after device sampling and selection, and
`commit` puts the results together (45 R357, R358).

Three orders of 45 R358 are visible, and each is inside one function here: consumption before the append
(`ibNext`), the Y field's I/O function before the Z field's (`ioNext`), the clear before the traps (`trapNext`). -/

namespace Sys2Proof.Machine

/-! ### Traps and suppression -/

/-- The step raises IBEmpty: BusIB, BusIBNA or IBDisp on an Empty buffer (60 R408). -/
def ibEmptyTrap (m : Microword) (s : State) : Bool :=
  (m.readsIBFront || m.ibDispatch) && s.ib.isEmpty

/-- `crossNow`: a c1 latch whose ALU operation carries into bit 8 (44 R324). -/
def crossNow (m : Microword) (t : Task) (s : State) : Bool :=
  decide (s.phase = .c1) && m.mem && (outFlags m t s).pgc

/-- `cancel`: the step is cancelled by a page cross of the last click or of its own (44 R325). -/
def cancelled (m : Microword) (t : Task) (s : State) : Bool := s.pageCross || crossNow m t s

/-- `suppress`: the data phases do not happen (44 R326). -/
def suppressed (m : Microword) (t : Task) (s : State) : Bool := cancelled m t s || ibEmptyTrap m s

/-- The step performs a data operation: an unsuppressed c2 write or c3 read (44 R322, R323). -/
def dataOperation (m : Microword) (t : Task) (s : State) : Bool :=
  m.mem && decide (s.phase ≠ .c1) && !suppressed m t s

/-- The step raises EmulatorMemoryError (44 R327). -/
def memErrTrap (m : Microword) (t : Task) (s : State) : Bool :=
  s.inp.memErr && decide (t = .emulator) && dataOperation m t s

/-- The trap codes the step raises (45 R351): parity of the fetched word under the machine's
PARITY_MODE (30 R136), memory error, stack boundary (42 R256), empty buffer. -/
def trapsRaised (m : Microword) (t : Task) (s : State) : BitVec 4 :=
  trapSet (parityFails s.params.parityMode m.encode) (memErrTrap m t s) (stackTrap m.xz.zFn s.stackP)
    (ibEmptyTrap m s)

/-! ### The memory phase -/

/-- The address of an address latch: RH[rA] above the ALU output (20 R75). -/
def latchAddr (m : Microword) (t : Task) (s : State) : BitVec 24 := s.rh.read m.rA ++ outY m t s

/-- The memory event of the step (44 R320 to R323, R326). -/
def memEvent (m : Microword) (t : Task) (s : State) : Option MemEvent :=
  if m.mem then
    match s.phase with
    | .c1 => some (.latch (latchAddr m t s) m.isMap)
    | .c2 => if suppressed m t s then none else some (.write (outY m t s))
    | .c3 => if suppressed m t s then none else some .read
  else none

/-! ### The next address and the link register -/

/-- The front byte as a dispatch index, when the buffer dispatch happens: the IB holds a byte and no page cross
cancels it (43 R292, R293). -/
def dispatchByte (m : Microword) (t : Task) (s : State) : Option Byte :=
  match s.ib with
  | [] => none
  | b :: _ => if cancelled m t s then none else some b

/-- The term a branch or dispatch ORs into the next-address field (43 R281 to R294). The ALU conditions are this
step's own flags; `intReq`, `iopReq`, `cpAck` and the IB are those at the start of the step. -/
def bdTerm (f : BDFn) (m : Microword) (t : Task) (s : State) : CSAddr :=
  match f with
  | .negBr => condBit (outFlags m t s).n
  | .zeroBr => condBit (outFlags m t s).z
  | .nZeroBr => condBit (!(outFlags m t s).z)
  | .intBr => condBit s.trap.intReq
  | .pgCarryBr => condBit (outFlags m t s).pgc
  | .carryBr => condBit (outFlags m t s).co
  | .xRefBr => condBit s.inp.xRef
  | .nibCarryBr => condBit (outFlags m t s).nc
  | .yDisp => ((outY m t s).extractLsb' 0 4).setWidth 12
  | .yIODisp => (BitVec.ofBool s.io.iopReq ++ BitVec.ofBool s.io.cpAck).setWidth 12
  | .ibDisp | .alwaysIBDisp =>
    match dispatchByte m t s with
    | some b => b.setWidth 12
    | none => 0
  | .ibPtrDisp => BitVec.ofNat 12 s.ib.length

/-- The next-address field's high bit, which tells a link write from a link merge (43 R298). -/
def linkHigh (m : Microword) : Bool := m.inia.getLsbD 11

/-- The next address (43 R280). -/
def nextAddr (m : Microword) (t : Task) (s : State) : CSAddr :=
  match m.y with
  | .bd f => m.inia ||| bdTerm f m t s
  | _ => if m.linkOp && linkHigh m then m.inia ||| (s.link.get t).setWidth 12 else m.inia

/-- The link registers after the step: a link write loads the current task's (43 R296). -/
def linkNext (m : Microword) (t : Task) (s : State) : PerTask (BitVec 4) :=
  if m.linkOp && !linkHigh m then s.link.set t m.linkAddr else s.link

/-! ### The registers after the step -/

/-- `RF` after the step. -/
def rfNext (m : Microword) (t : Task) (s : State) : RegFile 16 4 :=
  match destRF m.dest (outF m t s) s.q.val m.cycle with
  | some x => s.rf.write m.rB x
  | none => s.rf

/-- `Q` after the step. -/
def qNext (m : Microword) (t : Task) (s : State) : Slot 16 :=
  match destQ m.dest (outF m t s) s.q.val m.cycle with
  | some x => ⟨x, true⟩
  | none => s.q

/-- `RH` after the step: RHWrite (41 R212). -/
def rhNext (m : Microword) (t : Task) (s : State) : RegFile 8 4 :=
  match m.xz.xFn with
  | .rhWrite => s.rh.write m.rB (lowByte (outY m t s))
  | _ => s.rh

/-- `U` after the step: the U write of `enSU` (42 R251). -/
def uNext (m : Microword) (t : Task) (s : State) : RegFile 16 8 :=
  if m.enSU then s.u.write (uAddr m s) (outY m t s) else s.u

/-- The step consumes the front byte of the IB: BusIB on a buffer with a byte, or a dispatch that happens
(41 R207; 43 R292, R293). -/
def consumesIB (m : Microword) (t : Task) (s : State) : Bool :=
  (m.ptrDecrement && !s.ib.isEmpty) || ((m.ibDispatch || m.forceDisp) && (dispatchByte m t s).isSome)

/-- The IB after the step: first the consumption, then the append of IBLoad (45 R358 item 6); an append
without room is as IB_OVERFLOW says, and `none` is the host fault IBOverflow (41 R213). -/
def ibNext (m : Microword) (t : Task) (s : State) : Option (List Byte) :=
  let rest := if consumesIB m t s then s.ib.tail else s.ib
  if m.ibLoad then ibAppend s.params.ibOverflow rest (lowByte (outY m t s)) else some rest

/-- The I/O function of the Y field; NOP where the field holds none (42 R258). -/
def ioYFn (m : Microword) : IOFn :=
  match m.y with
  | .io f => f
  | _ => .nop

/-- The I/O function of the Z field; NOP where the field holds none (42 R258). -/
def ioZFn (m : Microword) : IOFn :=
  match m.xz.zFn with
  | .io f => f
  | _ => .nop

/-- The I/O channel after the step: BusIOP's clear, then the Y field's I/O function, then the Z field's
(45 R358 items 7 and 8). -/
def ioNext (m : Microword) (t : Task) (s : State) : Channel :=
  let c := match m.xz.xFn with
    | .busIOP => iopTake s.io
    | _ => s.io
  ioApply (ioZFn m) (outY m t s) (ioApply (ioYFn m) (outY m t s) c)

/-- The wakeup flags after the step: Block clears the current task's stored flag and does nothing for a device
task (42 R245). -/
def wakeNext (m : Microword) (t : Task) (s : State) : PerTask Bool :=
  match m.y with
  | .fy .block => if isDeviceTask t then s.wake else s.wake.set t false
  | _ => s.wake

/-- The trap registers after the step: ClrIntErr's clear, then the step's own traps (60 R402, R404). -/
def trapNext (m : Microword) (t : Task) (s : State) : TrapRegs :=
  raiseTraps (trapsRaised m t s)
    (match m.xz.xFn with
     | .clrIntErr => clearTraps
     | _ => s.trap)

/-! ### The click -/

/-- The state after a click of task `t` that ran the word `m`, with the IB it leaves (45 R358). -/
def commit (m : Microword) (t : Task) (s : State) (ib : List Byte) : State :=
  { s with
    rf := rfNext m t s
    q := qNext m t s
    flags := outFlags m t s
    ylatch := outY m t s
    rh := rhNext m t s
    u := uNext m t s
    tpc := s.tpc.set t (nextAddr m t s)
    link := linkNext m t s
    wake := wakeNext m t s
    phase := phaseSucc s.phase
    stackP := stackNext m.xz.zFn s.stackP
    ib := ib
    trap := trapNext m t s
    pageCross := crossNow m t s
    io := ioNext m t s
    event := memEvent m t s
    draws := s.draws + 1 }

/-- Run a valid word as the current task, at a state whose click has begun. With no current task the click is
idle (45 R356). A word with two IB reads is an invalid word (30 R133), and an IBLoad without room is the host
fault of 41 R213. -/
def runWord (m : Microword) (s : State) : Host.Outcome State Fault Refusal :=
  match s.cur with
  | none => .next (idleClick s)
  | some t =>
    if m.doubleIBRead then .fault .invalidControlWord
    else
      match ibNext m t s with
      | none => .fault .ibOverflow
      | some ib => .next (commit m t s ib)

/-- Fetching an invalid word (30 R132): the step has no successor. -/
def runInvalid : Host.Outcome State Fault Refusal := .fault .invalidControlWord

end Sys2Proof.Machine
end

