-- ==== Sys2Proof/Machine/AluFunctions.lean ====
section
/-! DEFINITION. The ALU rows: a word with the row's function (40 R160 to R167). -/

namespace Sys2Proof.Machine

/-- ALU.ADD: F = R + S + Cin (40 R160). -/
def execAluADD (o : Microword) (s : State) : Host.Outcome State Fault Refusal :=
  runWord (o.asAlu .add) s

/-- ALU.SUBR: F = S + ~R + Cin (40 R161). -/
def execAluSUBR (o : Microword) (s : State) : Host.Outcome State Fault Refusal :=
  runWord (o.asAlu .subr) s

/-- ALU.SUBS: F = R + ~S + Cin (40 R162). -/
def execAluSUBS (o : Microword) (s : State) : Host.Outcome State Fault Refusal :=
  runWord (o.asAlu .subs) s

/-- ALU.OR: F = R | S (40 R163). -/
def execAluOR (o : Microword) (s : State) : Host.Outcome State Fault Refusal :=
  runWord (o.asAlu .or) s

/-- ALU.AND: F = R & S (40 R164). -/
def execAluAND (o : Microword) (s : State) : Host.Outcome State Fault Refusal :=
  runWord (o.asAlu .and) s

/-- ALU.NOTRS: F = ~R & S (40 R165). -/
def execAluNOTRS (o : Microword) (s : State) : Host.Outcome State Fault Refusal :=
  runWord (o.asAlu .notrs) s

/-- ALU.EXOR: F = R ^ S (40 R166). -/
def execAluEXOR (o : Microword) (s : State) : Host.Outcome State Fault Refusal :=
  runWord (o.asAlu .exor) s

/-- ALU.EXNOR: F = ~(R ^ S) (40 R167). -/
def execAluEXNOR (o : Microword) (s : State) : Host.Outcome State Fault Refusal :=
  runWord (o.asAlu .exnor) s

end Sys2Proof.Machine
end

