-- ==== Sys2Proof/Machine/Branches.lean ====
section
/-! DEFINITION. The BD rows: a word with the row's branch or dispatch (43 R280 to R294). -/

namespace Sys2Proof.Machine

/-- BD.NegBr: branch on N (43 R282). -/
def execBdNegBr (o : Microword) (s : State) : Host.Outcome State Fault Refusal :=
  runWord (o.asBD .negBr) s

/-- BD.ZeroBr: branch on Z (43 R283). -/
def execBdZeroBr (o : Microword) (s : State) : Host.Outcome State Fault Refusal :=
  runWord (o.asBD .zeroBr) s

/-- BD.NZeroBr: branch on not Z (43 R284). -/
def execBdNZeroBr (o : Microword) (s : State) : Host.Outcome State Fault Refusal :=
  runWord (o.asBD .nZeroBr) s

/-- BD.IntBr: branch on intReq (43 R285). -/
def execBdIntBr (o : Microword) (s : State) : Host.Outcome State Fault Refusal :=
  runWord (o.asBD .intBr) s

/-- BD.PgCarryBr: branch on PGC (43 R286). -/
def execBdPgCarryBr (o : Microword) (s : State) : Host.Outcome State Fault Refusal :=
  runWord (o.asBD .pgCarryBr) s

/-- BD.CarryBr: branch on CO (43 R287). -/
def execBdCarryBr (o : Microword) (s : State) : Host.Outcome State Fault Refusal :=
  runWord (o.asBD .carryBr) s

/-- BD.XRefBr: branch on the xRef input (43 R288). -/
def execBdXRefBr (o : Microword) (s : State) : Host.Outcome State Fault Refusal :=
  runWord (o.asBD .xRefBr) s

/-- BD.NibCarryBr: branch on NC (43 R289). -/
def execBdNibCarryBr (o : Microword) (s : State) : Host.Outcome State Fault Refusal :=
  runWord (o.asBD .nibCarryBr) s

/-- BD.YDisp: dispatch on Y[3:0] (43 R290). -/
def execBdYDisp (o : Microword) (s : State) : Host.Outcome State Fault Refusal :=
  runWord (o.asBD .yDisp) s

/-- BD.YIODisp: dispatch on iopReq and cpAck (43 R291). -/
def execBdYIODisp (o : Microword) (s : State) : Host.Outcome State Fault Refusal :=
  runWord (o.asBD .yIODisp) s

/-- BD.IBDisp: dispatch on the front byte of the IB (43 R292). -/
def execBdIBDisp (o : Microword) (s : State) : Host.Outcome State Fault Refusal :=
  runWord (o.asBD .ibDisp) s

/-- BD.AlwaysIBDisp: the forced dispatch, which never traps (43 R293). -/
def execBdAlwaysIBDisp (o : Microword) (s : State) : Host.Outcome State Fault Refusal :=
  runWord (o.asBD .alwaysIBDisp) s

/-- BD.IBPtrDisp: dispatch on the length of the IB (43 R294). -/
def execBdIBPtrDisp (o : Microword) (s : State) : Host.Outcome State Fault Refusal :=
  runWord (o.asBD .ibPtrDisp) s

end Sys2Proof.Machine
end

