-- ==== Sys2Proof/Machine/Destinations.lean ====
section
/-! DEFINITION. The DEST rows and CYCLE: a word with the row's destination or fill (40 R178 to R186). -/

namespace Sys2Proof.Machine

/-- DEST.QREG: Q gets F (40 R178). -/
def execDestQREG (o : Microword) (s : State) : Host.Outcome State Fault Refusal :=
  runWord (o.asDestQ .none) s

/-- DEST.NOP: neither RF nor Q is written (40 R179). -/
def execDestNOP (o : Microword) (s : State) : Host.Outcome State Fault Refusal :=
  runWord (o.asDest .none) s

/-- DEST.RAMA: RF[rB] gets F, Y is A (40 R180). -/
def execDestRAMA (o : Microword) (s : State) : Host.Outcome State Fault Refusal :=
  runWord (o.asDestQ .ram) s

/-- DEST.RAMF: RF[rB] gets F (40 R181). -/
def execDestRAMF (o : Microword) (s : State) : Host.Outcome State Fault Refusal :=
  runWord (o.asDest .ram) s

/-- DEST.RAMQD: the pair F, Q shifts right into RF[rB] and Q (40 R182). -/
def execDestRAMQD (o : Microword) (s : State) : Host.Outcome State Fault Refusal :=
  runWord (o.asDestQ .down) s

/-- DEST.RAMD: F shifts right into RF[rB] (40 R183). -/
def execDestRAMD (o : Microword) (s : State) : Host.Outcome State Fault Refusal :=
  runWord (o.asDest .down) s

/-- DEST.RAMQU: the pair F, Q shifts left into RF[rB] and Q (40 R184). -/
def execDestRAMQU (o : Microword) (s : State) : Host.Outcome State Fault Refusal :=
  runWord (o.asDestQ .up) s

/-- DEST.RAMU: F shifts left into RF[rB] (40 R185). -/
def execDestRAMU (o : Microword) (s : State) : Host.Outcome State Fault Refusal :=
  runWord (o.asDest .up) s

/-- CYCLE: the shift destinations rotate (40 R186). -/
def execCycleShift (o : Microword) (s : State) : Host.Outcome State Fault Refusal :=
  runWord o.asCycle s

end Sys2Proof.Machine
end

