-- ==== Sys2Proof/Machine/IoFunctions.lean ====
section
/-! DEFINITION. The IO rows, in the Y field and in the Z field (42 R258 to R262). -/

namespace Sys2Proof.Machine

/-- IO.NOP in the Y field: no effect (42 R259). -/
def execIoYNOP (o : Microword) (s : State) : Host.Outcome State Fault Refusal :=
  runWord (o.asIOY .nop) s

/-- IO.IOPOData in the Y field: cpToIop gets Y[7:0], cpAck is set (42 R260). -/
def execIoYIOPOData (o : Microword) (s : State) : Host.Outcome State Fault Refusal :=
  runWord (o.asIOY .iopOData) s

/-- IO.IOPCtl in the Y field: wakeMode[Y[6:4]] gets Y[1:0] (42 R261). -/
def execIoYIOPCtl (o : Microword) (s : State) : Host.Outcome State Fault Refusal :=
  runWord (o.asIOY .iopCtl) s

/-- IO.DMADone in the Y field: dmaComplete is set (42 R262). -/
def execIoYDMADone (o : Microword) (s : State) : Host.Outcome State Fault Refusal :=
  runWord (o.asIOY .dmaDone) s

/-- IO.NOP in the Z field: no effect (42 R259). -/
def execIoZNOP (o : Microword) (s : State) : Host.Outcome State Fault Refusal :=
  runWord (o.asZ (.io .nop)) s

/-- IO.IOPOData in the Z field: cpToIop gets Y[7:0], cpAck is set (42 R260). -/
def execIoZIOPOData (o : Microword) (s : State) : Host.Outcome State Fault Refusal :=
  runWord (o.asZ (.io .iopOData)) s

/-- IO.IOPCtl in the Z field: wakeMode[Y[6:4]] gets Y[1:0] (42 R261). -/
def execIoZIOPCtl (o : Microword) (s : State) : Host.Outcome State Fault Refusal :=
  runWord (o.asZ (.io .iopCtl)) s

/-- IO.DMADone in the Z field: dmaComplete is set (42 R262). -/
def execIoZDMADone (o : Microword) (s : State) : Host.Outcome State Fault Refusal :=
  runWord (o.asZ (.io .dmaDone)) s

end Sys2Proof.Machine
end

