-- ==== Sys2Proof/Machine/MemoryPhase.lean ====
section
/-! DEFINITION. The MEM rows and ENSU: a word with the memory-phase or the SU-enable bit (44 R321 to R323; 42 R251). -/

namespace Sys2Proof.Machine

/-- ENSU: U[uAddr] gets Y (42 R251). -/
def execEnSU (o : Microword) (s : State) : Host.Outcome State Fault Refusal :=
  runWord o.asEnSU s

/-- MEM.LATCH: in phase c1, the address latch (44 R321). The three MEM rows share their bits: the phase of the click
says which operation the word performs. -/
def execMemLatch (o : Microword) (s : State) : Host.Outcome State Fault Refusal :=
  runWord o.asMem s

/-- MEM.WRITE: in phase c2, the data write (44 R322). The phase of the click says which operation the word performs. -/
def execMemWrite (o : Microword) (s : State) : Host.Outcome State Fault Refusal :=
  runWord o.asMem s

/-- MEM.READ: in phase c3, the data read (44 R323). The phase of the click says which operation the word performs. -/
def execMemRead (o : Microword) (s : State) : Host.Outcome State Fault Refusal :=
  runWord o.asMem s

end Sys2Proof.Machine
end

