-- ==== Sys2Proof/Machine/Reserved.lean ====
section
/-! DEFINITION. The reserved rows: fetching such a word is the host fault InvalidControlWord, with no state change (30 R132, R133). -/

namespace Sys2Proof.Machine

/-- FY.RESERVED6: a reserved code, an invalid word (30 R132; R247). -/
def execFyReserved6 (_w : ControlWord) (_s : State) : Host.Outcome State Fault Refusal := runInvalid

/-- FY.RESERVED7: a reserved code, an invalid word (30 R132; R247). -/
def execFyReserved7 (_w : ControlWord) (_s : State) : Host.Outcome State Fault Refusal := runInvalid

/-- FY.RESERVED8: a reserved code, an invalid word (30 R132; R247). -/
def execFyReserved8 (_w : ControlWord) (_s : State) : Host.Outcome State Fault Refusal := runInvalid

/-- FY.RESERVED9: a reserved code, an invalid word (30 R132; R247). -/
def execFyReserved9 (_w : ControlWord) (_s : State) : Host.Outcome State Fault Refusal := runInvalid

/-- FY.RESERVED10: a reserved code, an invalid word (30 R132; R247). -/
def execFyReserved10 (_w : ControlWord) (_s : State) : Host.Outcome State Fault Refusal := runInvalid

/-- FY.RESERVED11: a reserved code, an invalid word (30 R132; R247). -/
def execFyReserved11 (_w : ControlWord) (_s : State) : Host.Outcome State Fault Refusal := runInvalid

/-- FY.RESERVED12: a reserved code, an invalid word (30 R132; R247). -/
def execFyReserved12 (_w : ControlWord) (_s : State) : Host.Outcome State Fault Refusal := runInvalid

/-- FY.RESERVED13: a reserved code, an invalid word (30 R132; R247). -/
def execFyReserved13 (_w : ControlWord) (_s : State) : Host.Outcome State Fault Refusal := runInvalid

/-- FY.RESERVED14: a reserved code, an invalid word (30 R132; R247). -/
def execFyReserved14 (_w : ControlWord) (_s : State) : Host.Outcome State Fault Refusal := runInvalid

/-- FY.RESERVED15: a reserved code, an invalid word (30 R132; R247). -/
def execFyReserved15 (_w : ControlWord) (_s : State) : Host.Outcome State Fault Refusal := runInvalid

/-- BD.RESERVED13: a reserved code, an invalid word (30 R132; R295). -/
def execBdReserved13 (_w : ControlWord) (_s : State) : Host.Outcome State Fault Refusal := runInvalid

/-- BD.RESERVED14: a reserved code, an invalid word (30 R132; R295). -/
def execBdReserved14 (_w : ControlWord) (_s : State) : Host.Outcome State Fault Refusal := runInvalid

/-- BD.RESERVED15: a reserved code, an invalid word (30 R132; R295). -/
def execBdReserved15 (_w : ControlWord) (_s : State) : Host.Outcome State Fault Refusal := runInvalid

/-- IO.RESERVED4@Y: a reserved code, an invalid word (30 R132; R263). -/
def execIoYReserved4 (_w : ControlWord) (_s : State) : Host.Outcome State Fault Refusal := runInvalid

/-- IO.RESERVED5@Y: a reserved code, an invalid word (30 R132; R263). -/
def execIoYReserved5 (_w : ControlWord) (_s : State) : Host.Outcome State Fault Refusal := runInvalid

/-- IO.RESERVED6@Y: a reserved code, an invalid word (30 R132; R263). -/
def execIoYReserved6 (_w : ControlWord) (_s : State) : Host.Outcome State Fault Refusal := runInvalid

/-- IO.RESERVED7@Y: a reserved code, an invalid word (30 R132; R263). -/
def execIoYReserved7 (_w : ControlWord) (_s : State) : Host.Outcome State Fault Refusal := runInvalid

/-- IO.RESERVED8@Y: a reserved code, an invalid word (30 R132; R263). -/
def execIoYReserved8 (_w : ControlWord) (_s : State) : Host.Outcome State Fault Refusal := runInvalid

/-- IO.RESERVED9@Y: a reserved code, an invalid word (30 R132; R263). -/
def execIoYReserved9 (_w : ControlWord) (_s : State) : Host.Outcome State Fault Refusal := runInvalid

/-- IO.RESERVED10@Y: a reserved code, an invalid word (30 R132; R263). -/
def execIoYReserved10 (_w : ControlWord) (_s : State) : Host.Outcome State Fault Refusal := runInvalid

/-- IO.RESERVED11@Y: a reserved code, an invalid word (30 R132; R263). -/
def execIoYReserved11 (_w : ControlWord) (_s : State) : Host.Outcome State Fault Refusal := runInvalid

/-- IO.RESERVED12@Y: a reserved code, an invalid word (30 R132; R263). -/
def execIoYReserved12 (_w : ControlWord) (_s : State) : Host.Outcome State Fault Refusal := runInvalid

/-- IO.RESERVED13@Y: a reserved code, an invalid word (30 R132; R263). -/
def execIoYReserved13 (_w : ControlWord) (_s : State) : Host.Outcome State Fault Refusal := runInvalid

/-- IO.RESERVED14@Y: a reserved code, an invalid word (30 R132; R263). -/
def execIoYReserved14 (_w : ControlWord) (_s : State) : Host.Outcome State Fault Refusal := runInvalid

/-- IO.RESERVED15@Y: a reserved code, an invalid word (30 R132; R263). -/
def execIoYReserved15 (_w : ControlWord) (_s : State) : Host.Outcome State Fault Refusal := runInvalid

/-- FSY.RESERVED3: a reserved code, an invalid word (30 R132). -/
def execFsyReserved3 (_w : ControlWord) (_s : State) : Host.Outcome State Fault Refusal := runInvalid

/-- FX.RESERVED11: a reserved code, an invalid word (30 R132; R215). -/
def execFxReserved11 (_w : ControlWord) (_s : State) : Host.Outcome State Fault Refusal := runInvalid

/-- FX.RESERVED12: a reserved code, an invalid word (30 R132; R215). -/
def execFxReserved12 (_w : ControlWord) (_s : State) : Host.Outcome State Fault Refusal := runInvalid

/-- FX.RESERVED13: a reserved code, an invalid word (30 R132; R215). -/
def execFxReserved13 (_w : ControlWord) (_s : State) : Host.Outcome State Fault Refusal := runInvalid

/-- FX.RESERVED14: a reserved code, an invalid word (30 R132; R215). -/
def execFxReserved14 (_w : ControlWord) (_s : State) : Host.Outcome State Fault Refusal := runInvalid

/-- FX.RESERVED15: a reserved code, an invalid word (30 R132; R215). -/
def execFxReserved15 (_w : ControlWord) (_s : State) : Host.Outcome State Fault Refusal := runInvalid

/-- FZ.RESERVED12: a reserved code, an invalid word (30 R132; R257). -/
def execFzReserved12 (_w : ControlWord) (_s : State) : Host.Outcome State Fault Refusal := runInvalid

/-- FZ.RESERVED13: a reserved code, an invalid word (30 R132; R257). -/
def execFzReserved13 (_w : ControlWord) (_s : State) : Host.Outcome State Fault Refusal := runInvalid

/-- FZ.RESERVED14: a reserved code, an invalid word (30 R132; R257). -/
def execFzReserved14 (_w : ControlWord) (_s : State) : Host.Outcome State Fault Refusal := runInvalid

/-- FZ.RESERVED15: a reserved code, an invalid word (30 R132; R257). -/
def execFzReserved15 (_w : ControlWord) (_s : State) : Host.Outcome State Fault Refusal := runInvalid

/-- IO.RESERVED4@Z: a reserved code, an invalid word (30 R132; R263). -/
def execIoZReserved4 (_w : ControlWord) (_s : State) : Host.Outcome State Fault Refusal := runInvalid

/-- IO.RESERVED5@Z: a reserved code, an invalid word (30 R132; R263). -/
def execIoZReserved5 (_w : ControlWord) (_s : State) : Host.Outcome State Fault Refusal := runInvalid

/-- IO.RESERVED6@Z: a reserved code, an invalid word (30 R132; R263). -/
def execIoZReserved6 (_w : ControlWord) (_s : State) : Host.Outcome State Fault Refusal := runInvalid

/-- IO.RESERVED7@Z: a reserved code, an invalid word (30 R132; R263). -/
def execIoZReserved7 (_w : ControlWord) (_s : State) : Host.Outcome State Fault Refusal := runInvalid

/-- IO.RESERVED8@Z: a reserved code, an invalid word (30 R132; R263). -/
def execIoZReserved8 (_w : ControlWord) (_s : State) : Host.Outcome State Fault Refusal := runInvalid

/-- IO.RESERVED9@Z: a reserved code, an invalid word (30 R132; R263). -/
def execIoZReserved9 (_w : ControlWord) (_s : State) : Host.Outcome State Fault Refusal := runInvalid

/-- IO.RESERVED10@Z: a reserved code, an invalid word (30 R132; R263). -/
def execIoZReserved10 (_w : ControlWord) (_s : State) : Host.Outcome State Fault Refusal := runInvalid

/-- IO.RESERVED11@Z: a reserved code, an invalid word (30 R132; R263). -/
def execIoZReserved11 (_w : ControlWord) (_s : State) : Host.Outcome State Fault Refusal := runInvalid

/-- IO.RESERVED12@Z: a reserved code, an invalid word (30 R132; R263). -/
def execIoZReserved12 (_w : ControlWord) (_s : State) : Host.Outcome State Fault Refusal := runInvalid

/-- IO.RESERVED13@Z: a reserved code, an invalid word (30 R132; R263). -/
def execIoZReserved13 (_w : ControlWord) (_s : State) : Host.Outcome State Fault Refusal := runInvalid

/-- IO.RESERVED14@Z: a reserved code, an invalid word (30 R132; R263). -/
def execIoZReserved14 (_w : ControlWord) (_s : State) : Host.Outcome State Fault Refusal := runInvalid

/-- IO.RESERVED15@Z: a reserved code, an invalid word (30 R132; R263). -/
def execIoZReserved15 (_w : ControlWord) (_s : State) : Host.Outcome State Fault Refusal := runInvalid

/-- FSZ.RESERVED3: a reserved code, an invalid word (30 R132). -/
def execFszReserved3 (_w : ControlWord) (_s : State) : Host.Outcome State Fault Refusal := runInvalid

/-- INVALID.BusIB+IBDisp: a word with two IB reads, an invalid word (30 R133). -/
def execInvalidBusIBIBDisp (_w : ControlWord) (_s : State) : Host.Outcome State Fault Refusal := runInvalid

/-- INVALID.BusIB+AlwaysIBDisp: a word with two IB reads, an invalid word (30 R133). -/
def execInvalidBusIBAlwaysIBDisp (_w : ControlWord) (_s : State) : Host.Outcome State Fault Refusal := runInvalid

/-- INVALID.BusIBNA+IBDisp: a word with two IB reads, an invalid word (30 R133). -/
def execInvalidBusIBNAIBDisp (_w : ControlWord) (_s : State) : Host.Outcome State Fault Refusal := runInvalid

/-- INVALID.BusIBNA+AlwaysIBDisp: a word with two IB reads, an invalid word (30 R133). -/
def execInvalidBusIBNAAlwaysIBDisp (_w : ControlWord) (_s : State) : Host.Outcome State Fault Refusal := runInvalid

end Sys2Proof.Machine
end

