-- ==== Sys2Proof/Machine/SourcePairs.lean ====
section
/-! DEFINITION. The SRC rows: a word with the row's source pair (40 R151 to R158). -/

namespace Sys2Proof.Machine

/-- SRC.AQ: R = RF[rA], S = Q (40 R151). -/
def execSrcAQ (o : Microword) (s : State) : Host.Outcome State Fault Refusal :=
  runWord (o.asSrc .aq) s

/-- SRC.AB: R = RF[rA], S = RF[rB] (40 R152). -/
def execSrcAB (o : Microword) (s : State) : Host.Outcome State Fault Refusal :=
  runWord (o.asSrc .ab) s

/-- SRC.ZQ: R = 0, S = Q (40 R153). -/
def execSrcZQ (o : Microword) (s : State) : Host.Outcome State Fault Refusal :=
  runWord (o.asSrc .zq) s

/-- SRC.ZB: R = 0, S = RF[rB] (40 R154). -/
def execSrcZB (o : Microword) (s : State) : Host.Outcome State Fault Refusal :=
  runWord (o.asSrc .zb) s

/-- SRC.ZA: R = 0, S = RF[rA] (40 R155). -/
def execSrcZA (o : Microword) (s : State) : Host.Outcome State Fault Refusal :=
  runWord (o.asSrc .za) s

/-- SRC.DA: R = D, S = RF[rA] (40 R156). -/
def execSrcDA (o : Microword) (s : State) : Host.Outcome State Fault Refusal :=
  runWord (o.asSrc .da) s

/-- SRC.DQ: R = D, S = Q (40 R157). -/
def execSrcDQ (o : Microword) (s : State) : Host.Outcome State Fault Refusal :=
  runWord (o.asSrc .dq) s

/-- SRC.DZ: R = D, S = 0 (40 R158). -/
def execSrcDZ (o : Microword) (s : State) : Host.Outcome State Fault Refusal :=
  runWord (o.asSrc .dz) s

end Sys2Proof.Machine
end

