-- ==== Sys2Proof/Machine/XFunctions.lean ====
section
/-! DEFINITION. The FX rows: a word with the row's X function (41 R203 to R214). -/

namespace Sys2Proof.Machine

/-- FX.NOP: no X function; D is the external bus (41 R204). -/
def execFxNOP (o : Microword) (s : State) : Host.Outcome State Fault Refusal :=
  runWord (o.asFX .nop) s

/-- FX.BusU: D = U[uAddr] (41 R205). -/
def execFxBusU (o : Microword) (s : State) : Host.Outcome State Fault Refusal :=
  runWord (o.asFX .busU) s

/-- FX.BusRH: D = RH[rA] (41 R206). -/
def execFxBusRH (o : Microword) (s : State) : Host.Outcome State Fault Refusal :=
  runWord (o.asFX .busRH) s

/-- FX.BusIB: D is the front byte of the IB, which is consumed (41 R207). -/
def execFxBusIB (o : Microword) (s : State) : Host.Outcome State Fault Refusal :=
  runWord (o.asFX .busIB) s

/-- FX.BusIBNA: D is the front byte of the IB, which stays (41 R208). -/
def execFxBusIBNA (o : Microword) (s : State) : Host.Outcome State Fault Refusal :=
  runWord (o.asFX .busIBNA) s

/-- FX.BusIOP: D = iopToCp; iopReq is cleared (41 R209). -/
def execFxBusIOP (o : Microword) (s : State) : Host.Outcome State Fault Refusal :=
  runWord (o.asFX .busIOP) s

/-- FX.BusLink: D = Link[cur] (41 R210). -/
def execFxBusLink (o : Microword) (s : State) : Host.Outcome State Fault Refusal :=
  runWord (o.asFX .busLink) s

/-- FX.BusErr: D = errRead (41 R211). -/
def execFxBusErr (o : Microword) (s : State) : Host.Outcome State Fault Refusal :=
  runWord (o.asFX .busErr) s

/-- FX.RHWrite: RH[rB] gets Y[7:0] (41 R212). -/
def execFxRHWrite (o : Microword) (s : State) : Host.Outcome State Fault Refusal :=
  runWord (o.asFX .rhWrite) s

/-- FX.IBLoad: the IB gets Y[7:0] at its back (41 R213). -/
def execFxIBLoad (o : Microword) (s : State) : Host.Outcome State Fault Refusal :=
  runWord (o.asFX .ibLoad) s

/-- FX.ClrIntErr: the pending traps and intReq are cleared (41 R214). -/
def execFxClrIntErr (o : Microword) (s : State) : Host.Outcome State Fault Refusal :=
  runWord (o.asFX .clrIntErr) s

end Sys2Proof.Machine
end

