-- ==== Sys2Proof/Machine/YFunctions.lean ====
section
/-! DEFINITION. The FY rows: a word with the row's normal Y function (42 R240 to R246). -/

namespace Sys2Proof.Machine

/-- FY.NOP: no Y function (42 R241). -/
def execFyNOP (o : Microword) (s : State) : Host.Outcome State Fault Refusal :=
  runWord (o.asFY .nop) s

/-- FY.QOp: the Q-select bit, zero fill (42 R242). -/
def execFyQOp (o : Microword) (s : State) : Host.Outcome State Fault Refusal :=
  runWord (o.asFY .qOp) s

/-- FY.Cycle: the cycle bit (42 R243). -/
def execFyCycle (o : Microword) (s : State) : Host.Outcome State Fault Refusal :=
  runWord (o.asFY .cycle) s

/-- FY.QCycle: the Q-select and the cycle bit (42 R244). -/
def execFyQCycle (o : Microword) (s : State) : Host.Outcome State Fault Refusal :=
  runWord (o.asFY .qCycle) s

/-- FY.Block: clear the current task's stored wakeup (42 R245). -/
def execFyBlock (o : Microword) (s : State) : Host.Outcome State Fault Refusal :=
  runWord (o.asFY .block) s

/-- FY.Map: the c1 latch is a map reference (42 R246). -/
def execFyMap (o : Microword) (s : State) : Host.Outcome State Fault Refusal :=
  runWord (o.asFY .map) s

end Sys2Proof.Machine
end

