-- ==== Sys2Proof/Machine/ZFunctions.lean ====
section
/-! DEFINITION. The FZ rows, LIT, and MICROWORD, the format itself (42 R248 to R256; 41 R201; 30 R111). -/

namespace Sys2Proof.Machine

/-- MICROWORD: a word of the one format, run in full (30 R110, R111; 45 R351). -/
def execMicroword (o : Microword) (s : State) : Host.Outcome State Fault Refusal :=
  runWord o s

/-- FZ.Link: the link rule (42 R252; 43 R296 to R298). -/
def execFzLink (o : Microword) (s : State) : Host.Outcome State Fault Refusal :=
  runWord o.asLink s

/-- FZ.NOP: no Z function (42 R249). -/
def execFzNOP (o : Microword) (s : State) : Host.Outcome State Fault Refusal :=
  runWord (o.asZ .nop) s

/-- FZ.Push: the stack pointer goes up by one (42 R253). -/
def execFzPush (o : Microword) (s : State) : Host.Outcome State Fault Refusal :=
  runWord (o.asZ .push) s

/-- FZ.Pop: the stack pointer goes down by one (42 R254). -/
def execFzPop (o : Microword) (s : State) : Host.Outcome State Fault Refusal :=
  runWord (o.asZ .pop) s

/-- FZ.Pop2: the stack pointer goes down by two (42 R255). -/
def execFzPop2 (o : Microword) (s : State) : Host.Outcome State Fault Refusal :=
  runWord (o.asZ .pop2) s

/-- LIT: D is the literal byte; no X and no Z function runs (41 R201). -/
def execLit (o : Microword) (s : State) : Host.Outcome State Fault Refusal :=
  runWord o.asLit s

end Sys2Proof.Machine
end

