-- ==== Sys2Proof/Machine/Dispatch.lean ====
section
/-! DEFINITION. exec: one arm for each instruction of the opcode table, each a call of its meaning. -/

namespace Sys2Proof.Machine

/-- Run an instruction at a state whose click has begun (its inputs taken, its device wakes sampled, its task
selected): 45 R351 from step 3 on. -/
def exec (i : Instr) (s : State) : Host.Outcome State Fault Refusal :=
  match i with
  | .microword o => Sys2Proof.Machine.execMicroword o s
  | .srcAQ o => Sys2Proof.Machine.execSrcAQ o s
  | .srcAB o => Sys2Proof.Machine.execSrcAB o s
  | .srcZQ o => Sys2Proof.Machine.execSrcZQ o s
  | .srcZB o => Sys2Proof.Machine.execSrcZB o s
  | .srcZA o => Sys2Proof.Machine.execSrcZA o s
  | .srcDA o => Sys2Proof.Machine.execSrcDA o s
  | .srcDQ o => Sys2Proof.Machine.execSrcDQ o s
  | .srcDZ o => Sys2Proof.Machine.execSrcDZ o s
  | .aluADD o => Sys2Proof.Machine.execAluADD o s
  | .aluSUBR o => Sys2Proof.Machine.execAluSUBR o s
  | .aluSUBS o => Sys2Proof.Machine.execAluSUBS o s
  | .aluOR o => Sys2Proof.Machine.execAluOR o s
  | .aluAND o => Sys2Proof.Machine.execAluAND o s
  | .aluNOTRS o => Sys2Proof.Machine.execAluNOTRS o s
  | .aluEXOR o => Sys2Proof.Machine.execAluEXOR o s
  | .aluEXNOR o => Sys2Proof.Machine.execAluEXNOR o s
  | .destQREG o => Sys2Proof.Machine.execDestQREG o s
  | .destNOP o => Sys2Proof.Machine.execDestNOP o s
  | .destRAMA o => Sys2Proof.Machine.execDestRAMA o s
  | .destRAMF o => Sys2Proof.Machine.execDestRAMF o s
  | .destRAMQD o => Sys2Proof.Machine.execDestRAMQD o s
  | .destRAMD o => Sys2Proof.Machine.execDestRAMD o s
  | .destRAMQU o => Sys2Proof.Machine.execDestRAMQU o s
  | .destRAMU o => Sys2Proof.Machine.execDestRAMU o s
  | .cycleShift o => Sys2Proof.Machine.execCycleShift o s
  | .enSU o => Sys2Proof.Machine.execEnSU o s
  | .memLatch o => Sys2Proof.Machine.execMemLatch o s
  | .memWrite o => Sys2Proof.Machine.execMemWrite o s
  | .memRead o => Sys2Proof.Machine.execMemRead o s
  | .fyNOP o => Sys2Proof.Machine.execFyNOP o s
  | .fyQOp o => Sys2Proof.Machine.execFyQOp o s
  | .fyCycle o => Sys2Proof.Machine.execFyCycle o s
  | .fyQCycle o => Sys2Proof.Machine.execFyQCycle o s
  | .fyBlock o => Sys2Proof.Machine.execFyBlock o s
  | .fyMap o => Sys2Proof.Machine.execFyMap o s
  | .fyReserved6 w => Sys2Proof.Machine.execFyReserved6 w s
  | .fyReserved7 w => Sys2Proof.Machine.execFyReserved7 w s
  | .fyReserved8 w => Sys2Proof.Machine.execFyReserved8 w s
  | .fyReserved9 w => Sys2Proof.Machine.execFyReserved9 w s
  | .fyReserved10 w => Sys2Proof.Machine.execFyReserved10 w s
  | .fyReserved11 w => Sys2Proof.Machine.execFyReserved11 w s
  | .fyReserved12 w => Sys2Proof.Machine.execFyReserved12 w s
  | .fyReserved13 w => Sys2Proof.Machine.execFyReserved13 w s
  | .fyReserved14 w => Sys2Proof.Machine.execFyReserved14 w s
  | .fyReserved15 w => Sys2Proof.Machine.execFyReserved15 w s
  | .bdNegBr o => Sys2Proof.Machine.execBdNegBr o s
  | .bdZeroBr o => Sys2Proof.Machine.execBdZeroBr o s
  | .bdNZeroBr o => Sys2Proof.Machine.execBdNZeroBr o s
  | .bdIntBr o => Sys2Proof.Machine.execBdIntBr o s
  | .bdPgCarryBr o => Sys2Proof.Machine.execBdPgCarryBr o s
  | .bdCarryBr o => Sys2Proof.Machine.execBdCarryBr o s
  | .bdXRefBr o => Sys2Proof.Machine.execBdXRefBr o s
  | .bdNibCarryBr o => Sys2Proof.Machine.execBdNibCarryBr o s
  | .bdYDisp o => Sys2Proof.Machine.execBdYDisp o s
  | .bdYIODisp o => Sys2Proof.Machine.execBdYIODisp o s
  | .bdIBDisp o => Sys2Proof.Machine.execBdIBDisp o s
  | .bdAlwaysIBDisp o => Sys2Proof.Machine.execBdAlwaysIBDisp o s
  | .bdIBPtrDisp o => Sys2Proof.Machine.execBdIBPtrDisp o s
  | .bdReserved13 w => Sys2Proof.Machine.execBdReserved13 w s
  | .bdReserved14 w => Sys2Proof.Machine.execBdReserved14 w s
  | .bdReserved15 w => Sys2Proof.Machine.execBdReserved15 w s
  | .ioYNOP o => Sys2Proof.Machine.execIoYNOP o s
  | .ioYIOPOData o => Sys2Proof.Machine.execIoYIOPOData o s
  | .ioYIOPCtl o => Sys2Proof.Machine.execIoYIOPCtl o s
  | .ioYDMADone o => Sys2Proof.Machine.execIoYDMADone o s
  | .ioYReserved4 w => Sys2Proof.Machine.execIoYReserved4 w s
  | .ioYReserved5 w => Sys2Proof.Machine.execIoYReserved5 w s
  | .ioYReserved6 w => Sys2Proof.Machine.execIoYReserved6 w s
  | .ioYReserved7 w => Sys2Proof.Machine.execIoYReserved7 w s
  | .ioYReserved8 w => Sys2Proof.Machine.execIoYReserved8 w s
  | .ioYReserved9 w => Sys2Proof.Machine.execIoYReserved9 w s
  | .ioYReserved10 w => Sys2Proof.Machine.execIoYReserved10 w s
  | .ioYReserved11 w => Sys2Proof.Machine.execIoYReserved11 w s
  | .ioYReserved12 w => Sys2Proof.Machine.execIoYReserved12 w s
  | .ioYReserved13 w => Sys2Proof.Machine.execIoYReserved13 w s
  | .ioYReserved14 w => Sys2Proof.Machine.execIoYReserved14 w s
  | .ioYReserved15 w => Sys2Proof.Machine.execIoYReserved15 w s
  | .fsyReserved3 w => Sys2Proof.Machine.execFsyReserved3 w s
  | .fxNOP o => Sys2Proof.Machine.execFxNOP o s
  | .fxBusU o => Sys2Proof.Machine.execFxBusU o s
  | .fxBusRH o => Sys2Proof.Machine.execFxBusRH o s
  | .fxBusIB o => Sys2Proof.Machine.execFxBusIB o s
  | .fxBusIBNA o => Sys2Proof.Machine.execFxBusIBNA o s
  | .fxBusIOP o => Sys2Proof.Machine.execFxBusIOP o s
  | .fxBusLink o => Sys2Proof.Machine.execFxBusLink o s
  | .fxBusErr o => Sys2Proof.Machine.execFxBusErr o s
  | .fxRHWrite o => Sys2Proof.Machine.execFxRHWrite o s
  | .fxIBLoad o => Sys2Proof.Machine.execFxIBLoad o s
  | .fxClrIntErr o => Sys2Proof.Machine.execFxClrIntErr o s
  | .fxReserved11 w => Sys2Proof.Machine.execFxReserved11 w s
  | .fxReserved12 w => Sys2Proof.Machine.execFxReserved12 w s
  | .fxReserved13 w => Sys2Proof.Machine.execFxReserved13 w s
  | .fxReserved14 w => Sys2Proof.Machine.execFxReserved14 w s
  | .fxReserved15 w => Sys2Proof.Machine.execFxReserved15 w s
  | .fzLink o => Sys2Proof.Machine.execFzLink o s
  | .fzNOP o => Sys2Proof.Machine.execFzNOP o s
  | .fzPush o => Sys2Proof.Machine.execFzPush o s
  | .fzPop o => Sys2Proof.Machine.execFzPop o s
  | .fzPop2 o => Sys2Proof.Machine.execFzPop2 o s
  | .fzReserved12 w => Sys2Proof.Machine.execFzReserved12 w s
  | .fzReserved13 w => Sys2Proof.Machine.execFzReserved13 w s
  | .fzReserved14 w => Sys2Proof.Machine.execFzReserved14 w s
  | .fzReserved15 w => Sys2Proof.Machine.execFzReserved15 w s
  | .ioZNOP o => Sys2Proof.Machine.execIoZNOP o s
  | .ioZIOPOData o => Sys2Proof.Machine.execIoZIOPOData o s
  | .ioZIOPCtl o => Sys2Proof.Machine.execIoZIOPCtl o s
  | .ioZDMADone o => Sys2Proof.Machine.execIoZDMADone o s
  | .ioZReserved4 w => Sys2Proof.Machine.execIoZReserved4 w s
  | .ioZReserved5 w => Sys2Proof.Machine.execIoZReserved5 w s
  | .ioZReserved6 w => Sys2Proof.Machine.execIoZReserved6 w s
  | .ioZReserved7 w => Sys2Proof.Machine.execIoZReserved7 w s
  | .ioZReserved8 w => Sys2Proof.Machine.execIoZReserved8 w s
  | .ioZReserved9 w => Sys2Proof.Machine.execIoZReserved9 w s
  | .ioZReserved10 w => Sys2Proof.Machine.execIoZReserved10 w s
  | .ioZReserved11 w => Sys2Proof.Machine.execIoZReserved11 w s
  | .ioZReserved12 w => Sys2Proof.Machine.execIoZReserved12 w s
  | .ioZReserved13 w => Sys2Proof.Machine.execIoZReserved13 w s
  | .ioZReserved14 w => Sys2Proof.Machine.execIoZReserved14 w s
  | .ioZReserved15 w => Sys2Proof.Machine.execIoZReserved15 w s
  | .lit o => Sys2Proof.Machine.execLit o s
  | .fszReserved3 w => Sys2Proof.Machine.execFszReserved3 w s
  | .invalidBusIBIBDisp w => Sys2Proof.Machine.execInvalidBusIBIBDisp w s
  | .invalidBusIBAlwaysIBDisp w => Sys2Proof.Machine.execInvalidBusIBAlwaysIBDisp w s
  | .invalidBusIBNAIBDisp w => Sys2Proof.Machine.execInvalidBusIBNAIBDisp w s
  | .invalidBusIBNAAlwaysIBDisp w => Sys2Proof.Machine.execInvalidBusIBNAAlwaysIBDisp w s

end Sys2Proof.Machine
end

