-- ==== Sys2Proof/Machine/HostPort.lean ====
section
/-! DEFINITION. The host's operations other than executeClick (45 R360 to R364) and the IOP port map
(60 R416 to R426). Each takes and returns the whole state; a fault leaves the machine without a successor. -/

namespace Sys2Proof.Machine

/-! ### writeCS and setWake -/

/-- `writeCS(a, w)`: load a control word (45 R361). -/
def writeCS (a w : Nat) (s : State) : Host.Outcome State Fault Refusal :=
  if a < 4096 ∧ w < 2 ^ 48 then .next { s with cs := s.cs.write a (BitVec.ofNat 48 w) }
  else .fault .badAddress

/-- The stored-wake tasks by number (45 R362); none for a device task or for no task. -/
def storedWakeTask : Nat → Option Task
  | 0 => some .emulator
  | 5 => some .iop
  | 6 => some .iopcs
  | 7 => some .kernel
  | _ => none

/-- `setWake(t, b)`: set or clear a stored wakeup flag (45 R362). -/
def setWake (t : Nat) (b : Bool) (s : State) : Host.Outcome State Fault Refusal :=
  match storedWakeTask t with
  | some k => .next { s with wake := s.wake.set k b }
  | none => .fault .badTask

/-! ### The port map -/

/-- The index of a control-store slot port: 0xF8 to 0xFD are slots 0 to 5 (60 R420, R424). -/
def slotOfPort (p : Byte) : Option (Fin 6) :=
  if h : 248 ≤ p.toNat ∧ p.toNat ≤ 253 then some ⟨p.toNat - 248, by omega⟩ else none

/-- The address of the control-store port: the TPC of task 6, IOPcs (60 R420). -/
def csPortAddr (s : State) : Nat := (s.tpc.get .iopcs).toNat

/-- Byte `k` of a control word, byte 0 the most significant (20 R76; 60 R424). -/
def csByte (w : ControlWord) (k : Fin 6) : Byte := w.extractLsb' (40 - 8 * k.val) 8

/-- The word of the six staged bytes, stage 0 the most significant (60 R420). -/
def stagedWord (st : Vector Byte 6) : ControlWord := st[0] ++ st[1] ++ st[2] ++ st[3] ++ st[4] ++ st[5]

/-- The status byte of port 0xEC (60 R418). -/
def statusByte (c : Channel) : Byte :=
  (BitVec.ofBool c.dmaMode ++ BitVec.ofBool c.dmaComplete ++ BitVec.ofBool c.iopReq ++ BitVec.ofBool c.cpAck).setWidth 8

/-- The task that `tpcSel` selects (10 R39). -/
def tpcSelTask (s : State) : Task := taskOfCode s.tpcSel

/-- The high byte of the TPC read-back (60 R425). -/
def tpcHighByte (s : State) : Byte := 0#1 ++ s.tpcSel ++ (s.tpc.get (tpcSelTask s)).extractLsb' 8 4

/-- The low byte of the TPC read-back (60 R425). -/
def tpcLowByte (s : State) : Byte := (s.tpc.get (tpcSelTask s)).extractLsb' 0 8

/-- Read a control-store slot (60 R424). -/
def readSlot (k : Fin 6) (s : State) : Host.Outcome State Fault Refusal :=
  match s.cs.read (csPortAddr s) with
  | some w => .next { s with reply := some (csByte w k) }
  | none => .fault .csUnloaded

/-- `portRead(p)`: the byte goes to `reply` (45 R363; 60 R416, R418, R421, R424 to R426). -/
def portRead (p : Byte) (s : State) : Host.Outcome State Fault Refusal :=
  match slotOfPort p with
  | some k => readSlot k s
  | none =>
    match p with
    | 0xEB#8 => .next { s with reply := some s.io.cpToIop, io := { s.io with cpAck := false } }
    | 0xEC#8 => .next { s with reply := some (statusByte s.io) }
    | 0xFE#8 => .next { s with reply := some (tpcHighByte s) }
    | 0xFF#8 => .next { s with reply := some (tpcLowByte s) }
    | _ => .fault .portOutsideCore

/-- Write a control-store slot: it stages a byte, and slot f commits the staged word at the TPC of task 6
(60 R420). -/
def writeSlot (k : Fin 6) (v : Byte) (s : State) : State :=
  let st := s.csStage.set k.val v k.isLt
  if k.val = 5 then { s with csStage := st, cs := s.cs.write (csPortAddr s) (stagedWord st) }
  else { s with csStage := st }

/-- The control port 0xEC (60 R419). -/
def writeControl (v : Byte) (s : State) : State :=
  { s with
    io := { s.io with dmaMode := v.getLsbD 0 }
    trap := { s.trap with intReq := s.trap.intReq || v.getLsbD 1 } }

/-- `portWrite(p, v)` (45 R363; 60 R417, R419 to R423, R426). -/
def portWrite (p v : Byte) (s : State) : Host.Outcome State Fault Refusal :=
  match slotOfPort p with
  | some k => .next (writeSlot k v s)
  | none =>
    match p with
    | 0xEB#8 => .next { s with io := { s.io with iopToCp := v, iopReq := true } }
    | 0xEC#8 => .next (writeControl v s)
    | 0xEE#8 => .next { s with io := { s.io with dmaComplete := false } }
    | 0xFE#8 => .next { s with tpcSel := v.extractLsb' 4 3, tpcHi := v.extractLsb' 0 4 }
    | 0xFF#8 => .next { s with tpc := s.tpc.set (tpcSelTask s) (s.tpcHi ++ v) }
    | _ => .fault .portOutsideCore

/-! ### Accessors

They read a state element with no effect (45 R364). Every field of `State` is its own accessor; these are the
ones that are more than a field. -/

/-- A general register, as the host sees it. -/
def accRF (s : State) (i : BitVec 4) : Option Word := s.rf.peek i

/-- Q, as the host sees it. -/
def accQ (s : State) : Option Word := s.q.peek

/-- An RH register, as the host sees it. -/
def accRH (s : State) (i : BitVec 4) : Option Byte := s.rh.peek i

/-- A U register, as the host sees it. -/
def accU (s : State) (i : BitVec 8) : Option Word := s.u.peek i

/-- The error code, as the host sees it (60 R403). -/
def accErr (s : State) : BitVec 3 := errRead s.trap.errPending

/-- A control-store word, as the host sees it; none when it is unloaded. -/
def accCS (s : State) (a : CSAddr) : Option ControlWord := s.cs.read a.toNat

/-- The names of the IB's states (10 R33). -/
inductive IBState where
  | empty | oneByte | word | full
  deriving DecidableEq, Repr

/-- The name of the IB's state, by its length (10 R33). -/
def accIBState (s : State) : IBState :=
  match s.ib.length with
  | 0 => .empty
  | 1 => .oneByte
  | 2 => .word
  | _ => .full

end Sys2Proof.Machine
end

