-- ==== Sys2Proof/Machine/Engine.lean ====
section
/-! DEFINITION. The click: device sampling, task selection, fetch (45 R351 to R356), the operations of the host
as steps (45 R360), and the load that stands for a program (log 7). -/

namespace Sys2Proof.Machine

/-- The wakeup flags with the device inputs of this click in tasks 1 to 4 (45 R354). -/
def sampleWakes (inp : Inputs) (w : PerTask Bool) : PerTask Bool :=
  { w with
    display := inp.wakeDisplay
    ethernet := inp.wakeEthernet
    refresh := inp.wakeRefresh
    disk := inp.wakeDisk }

/-- The I/O wake term of a wake mode (45 R355). -/
def ioWake (c : Channel) (t : Task) : Bool :=
  match c.wakeMode.get t with
  | .disabled => false
  | .input => c.iopReq
  | .output => !c.cpAck
  | .always => true

/-- The effective wake (45 R353). -/
def awake (w : PerTask Bool) (c : Channel) (t : Task) : Bool := w.get t || ioWake c t

/-- The selection: the first awake task in a priority order (45 R352). -/
def selectTask (prio : List Task) (w : PerTask Bool) (c : Channel) : Option Task := prio.find? (awake w c)

/-- The start of a click: its inputs, the device wakes, the task that TASK_PRIORITY selects (45 R351, steps 1
and 2). -/
def beginClick (inp : Inputs) (s : State) : State :=
  { s with
    inp := inp
    wake := sampleWakes inp s.wake
    cur := selectTask s.params.taskPriority (sampleWakes inp s.wake) s.io }

/-- The word at the current task's TPC; none when it is unloaded (20 R71). -/
def fetchWord (t : Task) (s : State) : Option ControlWord := s.cs.read (s.tpc.get t).toNat

/-- One click (45 R350, R351): idle with no task awake, otherwise the fetched word's instruction. -/
def executeClick (inp : Inputs) (s : State) : Host.Outcome State Fault Refusal :=
  let s1 := beginClick inp s
  match s1.cur with
  | none => .next (idleClick s1)
  | some t =>
    match fetchWord t s1 with
    | none => .fault .csUnloaded
    | some w => exec (decode s1.phase w) s1

/-- One host operation (45 R360). -/
def performHostOp (op : HostOp) (s : State) : Host.Outcome State Fault Refusal :=
  match op with
  | .executeClick inp => executeClick inp s
  | .writeCS a w => writeCS a w s
  | .setWake t b => setWake t b s
  | .portRead p => portRead p s
  | .portWrite p v => portWrite p v s

/-- The next operation of the host: the agenda's first, or, with the agenda empty, a click whose inputs are free
values (log 3, log 4). -/
def nextOperation (s : State) : Host.Outcome State Fault Refusal :=
  match s.agenda with
  | [] => executeClick (Config.freeInputs s.draws) s
  | op :: rest => performHostOp op { s with agenda := rest }

/-- The task that a click with inputs of zero selects once task 0 is awake: task 0 itself under the default order,
where no task stands before it. -/
def nextTask (s : State) : Task :=
  (selectTask s.params.taskPriority (sampleWakes Inputs.zero (s.wake.set .emulator true)) s.io).getD .emulator

/-- The state that is about to run the word `w`: task 0 awake, a click with inputs of zero next, and the word at the
TPC of the task `t` which that click selects. It stands for the host's `writeCS(TPC[t], w)`, `setWake(0, true)` and
`executeClick` (70 R452; log 7). -/
def loadForNextStep (w : ControlWord) (s : State) : State :=
  { s with
    cs := s.cs.write (s.tpc.get (nextTask s)).toNat w
    wake := s.wake.set .emulator true
    agenda := [.executeClick Inputs.zero] }

end Sys2Proof.Machine
end

