-- ==== Sys2Proof/Machine/Step.lean ====
section
/-! DEFINITION. The step, and the placing of one instruction where the next step fetches it. -/

namespace Sys2Proof.Machine

/-- One step of the model: the host's next operation, most often a click of the core (45 R350, R360; log 3). -/
def step (s : State) : Host.Outcome State Fault Refusal := nextOperation s

/-- `s` with the instruction whose bits are `w`, as the opcode table numbers them, where the next step fetches
(log 7). -/
def State.withFetchWord (s : State) (nbits w : Nat) : State :=
  loadForNextStep (BitVec.ofNat 48 (w % 2 ^ nbits)) s

end Sys2Proof.Machine
end

