-- ==== Sys2Proof/OpcodeTable.lean ====
section
/-! DEFINITION. The mask and match of each row of spec/opcode_table.json, for the statement that every
instruction's encoding has its row's bits. -/

namespace Sys2Proof

/-- The row's mask and match (spec/opcode_table.json). -/
def Instr.tableRow : Instr → ControlWord × ControlWord
  | .microword _ => (0x000000000000, 0x000000000000)
  | .srcAQ _ => (0x00E000000000, 0x000000000000)
  | .srcAB _ => (0x00E000000000, 0x002000000000)
  | .srcZQ _ => (0x00E000000000, 0x004000000000)
  | .srcZB _ => (0x00E000000000, 0x006000000000)
  | .srcZA _ => (0x00E000000000, 0x008000000000)
  | .srcDA _ => (0x00E000000000, 0x00A000000000)
  | .srcDQ _ => (0x00E000000000, 0x00C000000000)
  | .srcDZ _ => (0x00E000000000, 0x00E000000000)
  | .aluADD _ => (0x001C00000000, 0x000000000000)
  | .aluSUBR _ => (0x001C00000000, 0x000400000000)
  | .aluSUBS _ => (0x001C00000000, 0x000800000000)
  | .aluOR _ => (0x001C00000000, 0x000C00000000)
  | .aluAND _ => (0x001C00000000, 0x001000000000)
  | .aluNOTRS _ => (0x001C00000000, 0x001400000000)
  | .aluEXOR _ => (0x001C00000000, 0x001800000000)
  | .aluEXNOR _ => (0x001C00000000, 0x001C00000000)
  | .destQREG _ => (0x00030CD00000, 0x000000100000)
  | .destNOP _ => (0x000300000000, 0x000000000000)
  | .destRAMA _ => (0x00030CD00000, 0x000100100000)
  | .destRAMF _ => (0x000300000000, 0x000100000000)
  | .destRAMQD _ => (0x00030CD00000, 0x000200100000)
  | .destRAMD _ => (0x000300000000, 0x000200000000)
  | .destRAMQU _ => (0x00030CD00000, 0x000300100000)
  | .destRAMU _ => (0x000300000000, 0x000300000000)
  | .cycleShift _ => (0x00000CE00000, 0x000000200000)
  | .enSU _ => (0x000020000000, 0x000020000000)
  | .memLatch _ => (0x000010000000, 0x000010000000)
  | .memWrite _ => (0x000010000000, 0x000010000000)
  | .memRead _ => (0x000010000000, 0x000010000000)
  | .fyNOP _ => (0x00000CF00000, 0x000000000000)
  | .fyQOp _ => (0x00000CF00000, 0x000000100000)
  | .fyCycle _ => (0x00000CF00000, 0x000000200000)
  | .fyQCycle _ => (0x00000CF00000, 0x000000300000)
  | .fyBlock _ => (0x00000CF00000, 0x000000400000)
  | .fyMap _ => (0x00000CF00000, 0x000000500000)
  | .fyReserved6 _ => (0x00000CF00000, 0x000000600000)
  | .fyReserved7 _ => (0x00000CF00000, 0x000000700000)
  | .fyReserved8 _ => (0x00000CF00000, 0x000000800000)
  | .fyReserved9 _ => (0x00000CF00000, 0x000000900000)
  | .fyReserved10 _ => (0x00000CF00000, 0x000000A00000)
  | .fyReserved11 _ => (0x00000CF00000, 0x000000B00000)
  | .fyReserved12 _ => (0x00000CF00000, 0x000000C00000)
  | .fyReserved13 _ => (0x00000CF00000, 0x000000D00000)
  | .fyReserved14 _ => (0x00000CF00000, 0x000000E00000)
  | .fyReserved15 _ => (0x00000CF00000, 0x000000F00000)
  | .bdNegBr _ => (0x00000CF00000, 0x000004000000)
  | .bdZeroBr _ => (0x00000CF00000, 0x000004100000)
  | .bdNZeroBr _ => (0x00000CF00000, 0x000004200000)
  | .bdIntBr _ => (0x00000CF00000, 0x000004300000)
  | .bdPgCarryBr _ => (0x00000CF00000, 0x000004400000)
  | .bdCarryBr _ => (0x00000CF00000, 0x000004500000)
  | .bdXRefBr _ => (0x00000CF00000, 0x000004600000)
  | .bdNibCarryBr _ => (0x00000CF00000, 0x000004700000)
  | .bdYDisp _ => (0x00000CF00000, 0x000004800000)
  | .bdYIODisp _ => (0x00000CF00000, 0x000004900000)
  | .bdIBDisp _ => (0x00000CF00000, 0x000004A00000)
  | .bdAlwaysIBDisp _ => (0x00000CF00000, 0x000004B00000)
  | .bdIBPtrDisp _ => (0x00000CF00000, 0x000004C00000)
  | .bdReserved13 _ => (0x00000CF00000, 0x000004D00000)
  | .bdReserved14 _ => (0x00000CF00000, 0x000004E00000)
  | .bdReserved15 _ => (0x00000CF00000, 0x000004F00000)
  | .ioYNOP _ => (0x00000CF00000, 0x000008000000)
  | .ioYIOPOData _ => (0x00000CF00000, 0x000008100000)
  | .ioYIOPCtl _ => (0x00000CF00000, 0x000008200000)
  | .ioYDMADone _ => (0x00000CF00000, 0x000008300000)
  | .ioYReserved4 _ => (0x00000CF00000, 0x000008400000)
  | .ioYReserved5 _ => (0x00000CF00000, 0x000008500000)
  | .ioYReserved6 _ => (0x00000CF00000, 0x000008600000)
  | .ioYReserved7 _ => (0x00000CF00000, 0x000008700000)
  | .ioYReserved8 _ => (0x00000CF00000, 0x000008800000)
  | .ioYReserved9 _ => (0x00000CF00000, 0x000008900000)
  | .ioYReserved10 _ => (0x00000CF00000, 0x000008A00000)
  | .ioYReserved11 _ => (0x00000CF00000, 0x000008B00000)
  | .ioYReserved12 _ => (0x00000CF00000, 0x000008C00000)
  | .ioYReserved13 _ => (0x00000CF00000, 0x000008D00000)
  | .ioYReserved14 _ => (0x00000CF00000, 0x000008E00000)
  | .ioYReserved15 _ => (0x00000CF00000, 0x000008F00000)
  | .fsyReserved3 _ => (0x00000C000000, 0x00000C000000)
  | .fxNOP _ => (0x0000020F0000, 0x000000000000)
  | .fxBusU _ => (0x0000020F0000, 0x000000010000)
  | .fxBusRH _ => (0x0000020F0000, 0x000000020000)
  | .fxBusIB _ => (0x0000020F0000, 0x000000030000)
  | .fxBusIBNA _ => (0x0000020F0000, 0x000000040000)
  | .fxBusIOP _ => (0x0000020F0000, 0x000000050000)
  | .fxBusLink _ => (0x0000020F0000, 0x000000060000)
  | .fxBusErr _ => (0x0000020F0000, 0x000000070000)
  | .fxRHWrite _ => (0x0000020F0000, 0x000000080000)
  | .fxIBLoad _ => (0x0000020F0000, 0x000000090000)
  | .fxClrIntErr _ => (0x0000020F0000, 0x0000000A0000)
  | .fxReserved11 _ => (0x0000020F0000, 0x0000000B0000)
  | .fxReserved12 _ => (0x0000020F0000, 0x0000000C0000)
  | .fxReserved13 _ => (0x0000020F0000, 0x0000000D0000)
  | .fxReserved14 _ => (0x0000020F0000, 0x0000000E0000)
  | .fxReserved15 _ => (0x0000020F0000, 0x0000000F0000)
  | .fzLink _ => (0x000003008000, 0x000000000000)
  | .fzNOP _ => (0x00000300F000, 0x000000008000)
  | .fzPush _ => (0x00000300F000, 0x000000009000)
  | .fzPop _ => (0x00000300F000, 0x00000000A000)
  | .fzPop2 _ => (0x00000300F000, 0x00000000B000)
  | .fzReserved12 _ => (0x00000300F000, 0x00000000C000)
  | .fzReserved13 _ => (0x00000300F000, 0x00000000D000)
  | .fzReserved14 _ => (0x00000300F000, 0x00000000E000)
  | .fzReserved15 _ => (0x00000300F000, 0x00000000F000)
  | .ioZNOP _ => (0x00000300F000, 0x000001000000)
  | .ioZIOPOData _ => (0x00000300F000, 0x000001001000)
  | .ioZIOPCtl _ => (0x00000300F000, 0x000001002000)
  | .ioZDMADone _ => (0x00000300F000, 0x000001003000)
  | .ioZReserved4 _ => (0x00000300F000, 0x000001004000)
  | .ioZReserved5 _ => (0x00000300F000, 0x000001005000)
  | .ioZReserved6 _ => (0x00000300F000, 0x000001006000)
  | .ioZReserved7 _ => (0x00000300F000, 0x000001007000)
  | .ioZReserved8 _ => (0x00000300F000, 0x000001008000)
  | .ioZReserved9 _ => (0x00000300F000, 0x000001009000)
  | .ioZReserved10 _ => (0x00000300F000, 0x00000100A000)
  | .ioZReserved11 _ => (0x00000300F000, 0x00000100B000)
  | .ioZReserved12 _ => (0x00000300F000, 0x00000100C000)
  | .ioZReserved13 _ => (0x00000300F000, 0x00000100D000)
  | .ioZReserved14 _ => (0x00000300F000, 0x00000100E000)
  | .ioZReserved15 _ => (0x00000300F000, 0x00000100F000)
  | .lit _ => (0x000003000000, 0x000002000000)
  | .fszReserved3 _ => (0x000003000000, 0x000003000000)
  | .invalidBusIBIBDisp _ => (0x00000EFF0000, 0x000004A30000)
  | .invalidBusIBAlwaysIBDisp _ => (0x00000EFF0000, 0x000004B30000)
  | .invalidBusIBNAIBDisp _ => (0x00000EFF0000, 0x000004A40000)
  | .invalidBusIBNAAlwaysIBDisp _ => (0x00000EFF0000, 0x000004B40000)

end Sys2Proof
end

