-- ==== Sys2Proof/Safety.lean ====
section
/-! DEFINITION. What a sound state and a safe step are, in the terms the statements use. -/

namespace Sys2Proof.Machine

/-- A sound state: the control store in its canonical form, at most three bytes in the IB (10 R33), no trap code
pending without an interrupt request (60 R402, R404, R411), and TASK_PRIORITY a total order (00 R6). -/
def State.sound (s : State) : Bool :=
  s.cs.wf && decide (s.ib.length ≤ 3) && (decide (s.trap.errPending = 0) || s.trap.intReq) && s.params.wf

/-- An outcome that goes on. -/
def goesOn (o : Host.Outcome State Fault Refusal) : Bool :=
  match o with
  | .next _ => true
  | .fault _ => false
  | .refused _ => false

/-- A word completes at a state: it reads the IB at most once (30 R133), and an IBLoad finds room (fewer
than three bytes, or three of which the step itself consumes one) or IB_OVERFLOW is Discard (41 R213). -/
def completes (m : Microword) (t : Task) (s : State) : Bool :=
  m.oneIBRead &&
    (!m.ibLoad || decide (s.params.ibOverflow = .discard) || decide (s.ib.length < 3) ||
      (decide (s.ib.length = 3) && consumesIB m t s))

/-- The instruction answers a next state, and that state has `post`. -/
def givesNext (i : Instr) (s : State) (post : State → Prop) : Prop := ∃ s', exec i s = .next s' ∧ post s'

/-- The two ALU operands of a word whose data bus carries `d` (40 R151 to R158). -/
def operandPair (m : Microword) (s : State) (d : Word) : Word × Word :=
  let a := s.rf.read m.rA
  let b := s.rf.read m.rB
  match m.aS with
  | .aq => (a, s.q.val)
  | .ab => (a, b)
  | .zq => (0, s.q.val)
  | .zb => (0, b)
  | .za => (0, a)
  | .da => (d, a)
  | .dq => (d, s.q.val)
  | .dz => (d, 0)

/-- From `s` to `s'` the ALU ran the word's function with `d` on the data bus: the stored flags, and the output
Y, which is A for RAMA (40 R175, R177). -/
def ranOn (m : Microword) (s s' : State) (d : Word) : Prop :=
  let r := (operandPair m s d).1
  let v := (operandPair m s d).2
  s'.flags = aluFlags s.params.logicCarry m.aF r v m.cin ∧
    s'.ylatch = if m.dest = .rama then s.rf.read m.rA else aluResult m.aF r v m.cin

/-- The six flags of the nibble chain of a table on two operands, with the function result `f` (40 R168, R175). -/
def chainFlags (tab : NibbleTable) (r v : Word) (cin : Bool) (f : Word) : Flags :=
  { z := decide (f = 0)
    n := f.getLsbD 15
    nc := chainCarry tab r v cin 1
    pgc := chainCarry tab r v cin 2
    co := chainCarry tab r v cin 4
    ovf := chainOverflow tab r v cin 3 }

/-- The trap registers to which a step adds its own traps: cleared by ClrIntErr, else those of its start
(60 R402, R404). -/
def trapStart (m : Microword) (s : State) : TrapRegs :=
  if m.xz.xFn = .clrIntErr then ⟨0, false⟩ else s.trap

/-- A page cross of the last click, or of the click from `s` to `s'`, cancels the step (44 R324, R325). -/
def pageCancel (m : Microword) (s s' : State) : Bool :=
  s.pageCross || (decide (s.phase = .c1) && m.mem && s'.flags.pgc)

/-- The IB that a word leaves when `rest` is what its consumption left: an IBLoad that finds room appends the low byte
of the step's output Y (41 R213). -/
def afterLoad (m : Microword) (s' : State) (rest : List Byte) : List Byte :=
  if m.xz.xFn = .ibLoad ∧ rest.length < 3 then rest ++ [s'.ylatch.extractLsb' 0 8] else rest

/-- The words that no X or Z function, and no earlier row of the naming order, takes from a row: a row answers
itself for these of its words. The BD and IO@Y rows, FY.Block and FY.Map name every word they match; the FX rows
and LIT name theirs when the Y field is FY NOP. -/
def namesItsWord : Instr → Bool
  | .bdNegBr _ | .bdZeroBr _ | .bdNZeroBr _ | .bdIntBr _ | .bdPgCarryBr _ | .bdCarryBr _ | .bdXRefBr _
  | .bdNibCarryBr _ | .bdYDisp _ | .bdYIODisp _ | .bdIBDisp _ | .bdAlwaysIBDisp _ | .bdIBPtrDisp _
  | .ioYNOP _ | .ioYIOPOData _ | .ioYIOPCtl _ | .ioYDMADone _ | .fyBlock _ | .fyMap _ => true
  | .fxBusU o | .fxBusRH o | .fxBusIB o | .fxBusIBNA o | .fxBusIOP o | .fxBusLink o | .fxBusErr o
  | .fxRHWrite o | .fxIBLoad o | .fxClrIntErr o | .lit o => decide (o.y = .fy .nop)
  | _ => false

end Sys2Proof.Machine
end

