-- ==== Sys2Proof/Certificates/Slice0/Obligations.lean ====
section
/-! DEFINITION. The statements for the provers. Each docstring names the rule of the spec it formalises; a
statement that rests on a choice of the model says so and names the log entry. A click runs at a state with a
current task `t` (`s.cur = some t`); `completes` is the condition under which no host fault of 30 R133 or
41 R213 arises. -/

open Sys2Proof Sys2Proof.Machine

/-! ### The encoding -/

/-- No bit of a word is lost: encoding what a word decodes to gives the word back, and that instruction is well
formed, for every 48-bit word, valid or not (30 R111, R132, R135, R138). -/
def Obligations.EncodeOfDecodeIsTheWord : Prop :=
  ∀ (ph : Phase) (w : ControlWord), encode (decode ph w) = w ∧ (decode ph w).wf = true

/-- Decoding an encoded well-formed instruction denotes the same word, for every constructor and operand (30 R111,
R135, R138; log 10: the row that names a word is the model's choice, the word it denotes is not). -/
def Obligations.DecodeOfEncodeDenotesTheSameWord : Prop :=
  ∀ (ph : Phase) (i : Instr), i.wf = true → (decode ph (encode i)).body = i.body

/-- Decoding an encoded instruction gives the very same constructor for the BD, IO@Y, FY.Block and FY.Map rows,
and for the bus and literal rows with FY NOP (30 R126, R127, R129, R130, R131, by the naming order of log 10). -/
def Obligations.DecodeOfEncodeIsTheInstruction : Prop :=
  ∀ (ph : Phase) (i : Instr), i.wf = true → namesItsWord i = true → decode ph (encode i) = i

/-- Every instruction's encoding has the mask and match of its own row of the opcode table. -/
def Obligations.EncodingHasItsTableRowsBits : Prop :=
  ∀ i : Instr, encode i &&& i.tableRow.1 = i.tableRow.2

/-- 30 R132, R133: a word decodes to an invalid word exactly when a clause (a) to (i) holds, and the step that
fetches it faults InvalidControlWord. -/
def Obligations.InvalidWordsAreThoseOfTheRuleAndFault : Prop :=
  ∀ w : ControlWord,
    let fSY := w.extractLsb' 26 2
    let fSZ := w.extractLsb' 24 2
    let fY := (w.extractLsb' 20 4).toNat
    let fX := (w.extractLsb' 16 4).toNat
    let fZ := (w.extractLsb' 12 4).toNat
    let invalid : Prop :=
      fSY = 3 ∨ fSZ = 3 ∨ (fSY = 0 ∧ 6 ≤ fY) ∨ (fSY = 1 ∧ 13 ≤ fY) ∨ (fSY = 2 ∧ 4 ≤ fY) ∨
        (fSZ ≠ 2 ∧ 11 ≤ fX) ∨ (fSZ = 0 ∧ 12 ≤ fZ) ∨ (fSZ = 1 ∧ 4 ≤ fZ) ∨
        ((fSZ ≠ 2 ∧ (fX = 3 ∨ fX = 4)) ∧ fSY = 1 ∧ (fY = 10 ∨ fY = 11))
    (decodeMicroword w = none ↔ invalid) ∧
      ∀ (inp : Inputs) (s : State) (t : Task), (beginClick inp s).cur = some t →
        s.cs.read (s.tpc.get t).toNat = some w →
          (executeClick inp s = .fault .invalidControlWord ↔ invalid)

/-- Every reserved row of the table, each of the 52 constructors that carry an invalid word, is the host fault
InvalidControlWord at every state, with a current task or idle (30 R132; 93 rows 1 to 3). -/
def Obligations.ReservedRowsFault : Prop :=
  ∀ (i : Instr) (w : ControlWord) (s : State), i.body = .invalid w → exec i s = .fault .invalidControlWord

/-- 30 R134, R115: the derived values of a decoded word, as functions of its bits. -/
def Obligations.DerivedValuesAreFunctionsOfTheBits : Prop :=
  ∀ (w : ControlWord) (m : Microword), decodeMicroword w = some m →
    let fSY := (w.extractLsb' 26 2).toNat
    let fSZ := (w.extractLsb' 24 2).toNat
    let fY := (w.extractLsb' 20 4).toNat
    let fX := (w.extractLsb' 16 4).toNat
    let fZ := (w.extractLsb' 12 4).toNat
    let aD := (w.extractLsb' 32 2).toNat
    let aS := (w.extractLsb' 37 3).toNat
    m.qSel = (decide (fSY = 0) && (decide (fY = 1) || decide (fY = 3))) ∧
    m.cycle = (decide (fSY = 0) && (decide (fY = 2) || decide (fY = 3))) ∧
    m.dest.code = w.extractLsb' 32 2 ++ BitVec.ofBool (!m.qSel) ∧
    m.isShift = (decide (aD = 2) || decide (aD = 3)) ∧
    m.needsBus = (decide (aS = 5) || decide (aS = 6) || decide (aS = 7)) ∧
    (m.xz.zFn = .push ↔ fSZ = 0 ∧ fZ = 9) ∧
    (m.xz.zFn = .pop ↔ fSZ = 0 ∧ fZ = 10) ∧
    (m.xz.zFn = .pop2 ↔ fSZ = 0 ∧ fZ = 11) ∧
    (∀ sp : BitVec 4, stackTrap m.xz.zFn sp =
      ((decide (fSZ = 0 ∧ fZ = 9) && decide (sp = 15)) || (decide (fSZ = 0 ∧ fZ = 10) && decide (sp = 0)) ||
        (decide (fSZ = 0 ∧ fZ = 11) && decide (sp.toNat ≤ 1)))) ∧
    m.ibDispatch = (decide (fSY = 1) && decide (fY = 10)) ∧
    m.forceDisp = (decide (fSY = 1) && decide (fY = 11)) ∧
    m.ibLoad = (decide (fSZ ≠ 2) && decide (fX = 9)) ∧
    m.ptrDecrement = (decide (fSZ ≠ 2) && decide (fX = 3)) ∧
    (fSZ = 2 → m.xz = .lit (w.extractLsb' 12 8)) ∧
    (fSZ ≠ 2 → ∀ b, m.xz ≠ .lit b) ∧
    m.uConstAddr = w.extractLsb' 40 8 ∧
    m.linkAddr = w.extractLsb' 0 4 ∧
    m.linkOp = (decide (fSZ = 0) && decide (fZ < 8) && decide (fSY ≠ 1)) ∧
    m.mem = w.getLsbD 28 ∧
    m.isMap = (decide (fSY = 0) && decide (fY = 5))

/-- Sample words, written out bit by bit from 30 R111 and the code tables, decode to the instruction they stand
for: one or more of every group of rows, the reserved ones included. Which valid row names a word is the model's
choice (log 10). -/
def Obligations.SampleWordsDecodeToTheirInstruction : Prop :=
  let base : Microword :=
    ⟨0, 0, .dz, .add, .none, false, false, false, false, .fy .nop, .fn .nop .nop, 0x041⟩
  decode .c1 0x00E000008041 = .microword base ∧
  decode .c2 0x00E000008041 = .microword base ∧
  decode .c1 0x12A182003000 =
    .lit { base with rA := 1, rB := 2, aS := .da, aD := .ram, ep := true, xz := .lit 3, inia := 0 } ∧
  decode .c1 0x000480008041 = .aluSUBR { base with aS := .aq, aF := .subr, ep := true } ∧
  decode .c1 0x118140008001 =
    .destRAMF { base with rA := 1, rB := 1, aS := .za, aD := .ram, cin := true, inia := 1 } ∧
  decode .c1 0x01E380208041 = .cycleShift { base with rB := 1, aD := .up, ep := true, y := .fy .cycle } ∧
  decode .c1 0xABE0A0008041 = .enSU { base with rA := 10, rB := 11, ep := true, enSU := true } ∧
  decode .c1 0x20E090008041 = .memLatch { base with rA := 2, ep := true, mem := true } ∧
  decode .c2 0x20E090008041 = .memWrite { base with rA := 2, ep := true, mem := true } ∧
  decode .c3 0x20E090008041 = .memRead { base with rA := 2, ep := true, mem := true } ∧
  decode .c1 0x00E080408010 = .fyBlock { base with ep := true, y := .fy .block, inia := 0x010 } ∧
  decode .c1 0x00E084A08100 = .bdIBDisp { base with ep := true, y := .bd .ibDisp, inia := 0x100 } ∧
  decode .c1 0x00E009102041 =
    .ioYIOPOData { base with y := .io .iopOData, xz := .fn .nop (.io .iopCtl) } ∧
  decode .c1 0x03E10001A041 = .fxBusU { base with rB := 3, aD := .ram, xz := .fn .busU .pop } ∧
  decode .c1 0x00E0A0009041 = .fzPush { base with ep := true, enSU := true, xz := .fn .nop .push } ∧
  decode .c1 0x00E000000123 = .srcDZ { base with xz := .fn .nop (.link 0), inia := 0x123 } ∧
  decode .c1 0x00E08C008041 = .fsyReserved3 0x00E08C008041 ∧
  decode .c1 0x00E0000B8041 = .fxReserved11 0x00E0000B8041 ∧
  decode .c1 0x00E001004041 = .ioZReserved4 0x00E001004041 ∧
  decode .c1 0x00E004A38041 = .invalidBusIBIBDisp 0x00E004A38041

/-! ### The ALU -/

/-- 40 R151 to R157: each source pair's row completes with its two operands, as the flags and Y show. -/
def Obligations.SourceRowsPickTheirOperands : Prop :=
  ∀ (o : Microword) (t : Task) (s : State), s.cur = some t →
    let a := s.rf.read o.rA
    let b := s.rf.read o.rB
    let q := s.q.val
    let d := busD o t s
    let ran (r v : Word) (s' : State) : Prop :=
      s'.flags = aluFlags s.params.logicCarry o.aF r v o.cin ∧
        s'.ylatch = if o.dest = .rama then a else aluResult o.aF r v o.cin
    (completes (o.asSrc .aq) t s = true → givesNext (.srcAQ o) s (ran a q)) ∧
    (completes (o.asSrc .ab) t s = true → givesNext (.srcAB o) s (ran a b)) ∧
    (completes (o.asSrc .zq) t s = true → givesNext (.srcZQ o) s (ran 0 q)) ∧
    (completes (o.asSrc .zb) t s = true → givesNext (.srcZB o) s (ran 0 b)) ∧
    (completes (o.asSrc .za) t s = true → givesNext (.srcZA o) s (ran 0 a)) ∧
    (completes (o.asSrc .da) t s = true → givesNext (.srcDA o) s (ran d a)) ∧
    (completes (o.asSrc .dq) t s = true → givesNext (.srcDQ o) s (ran d q)) ∧
    (completes (o.asSrc .dz) t s = true → givesNext (.srcDZ o) s (ran d 0))

/-- 40 R159 to R175: each function's row completes with the function's result and the six flags, the chain of four
nibbles written out: the arithmetic table of R169, and for the logic functions the machine's LOGIC_CARRY, which at its
default is the bit equations of R170 to R174 (general knowledge in the spec, log 14). -/
def Obligations.FunctionRowsGiveTheirResultAndFlags : Prop :=
  ∀ (o : Microword) (t : Task) (s : State), s.cur = some t →
    let r := (operandPair o s (busD o t s)).1
    let v := (operandPair o s (busD o t s)).2
    let c : Word := if o.cin then 1 else 0
    let arith : NibbleTable := fun a b k =>
      let carry := decide (16 ≤ a.toNat + b.toNat + k.toNat)
      (carry, decide (8 ≤ a.toNat % 8 + b.toNat % 8 + k.toNat) ^^ carry)
    let orEq : NibbleTable := fun a b k =>
      let p (i : Nat) : Bool := a.getLsbD i || b.getLsbD i
      let carry := !(p 3 && p 2 && p 1 && p 0) || k
      (carry, carry)
    let andEq : NibbleTable := fun a b k =>
      let g (i : Nat) : Bool := a.getLsbD i && b.getLsbD i
      let carry := g 3 || g 2 || g 1 || g 0 || k
      (carry, carry)
    let exnorEq : NibbleTable := fun a b k =>
      let p (i : Nat) : Bool := a.getLsbD i || b.getLsbD i
      let g (i : Nat) : Bool := a.getLsbD i && b.getLsbD i
      let x2 := !p 2 || (!g 2 && !p 1) || (!g 2 && !g 1 && !p 0) || (!g 2 && !g 1 && !g 0 && k)
      let x3 := !p 3 || (!g 3 && !p 2) || (!g 3 && !g 2 && !p 1) || (!g 3 && !g 2 && !g 1 && !p 0) ||
        (!g 3 && !g 2 && !g 1 && !g 0 && k)
      (!(g 3 || (p 3 && g 2) || (p 3 && p 2 && g 1) || (p 3 && p 2 && p 1 && p 0 && (g 0 || !k))), x2 ^^ x3)
    let onNotR (tab : NibbleTable) : NibbleTable := fun a b k => tab (~~~a) b k
    let logic (eqs : NibbleTable) (rows : LogicRows → NibbleRows) : NibbleTable :=
      match s.params.logicCarry with
      | .am2901 => eqs
      | .tables x => rowsTable (rows x)
    let gave (tab : NibbleTable) (a b f : Word) (s' : State) : Prop :=
      let k1 := (tab (a.extractLsb' 0 4) (b.extractLsb' 0 4) o.cin).1
      let k2 := (tab (a.extractLsb' 4 4) (b.extractLsb' 4 4) k1).1
      let k3 := (tab (a.extractLsb' 8 4) (b.extractLsb' 8 4) k2).1
      let top := tab (a.extractLsb' 12 4) (b.extractLsb' 12 4) k3
      s'.flags = { z := decide (f = 0), n := f.getLsbD 15, nc := k1, pgc := k2, co := top.1, ovf := top.2 } ∧
        s'.ylatch = if o.dest = .rama then s.rf.read o.rA else f
    (completes (o.asAlu .add) t s = true → givesNext (.aluADD o) s (gave arith r v (r + v + c))) ∧
    (completes (o.asAlu .subr) t s = true → givesNext (.aluSUBR o) s (gave arith (~~~r) v (v + ~~~r + c))) ∧
    (completes (o.asAlu .subs) t s = true → givesNext (.aluSUBS o) s (gave arith r (~~~v) (r + ~~~v + c))) ∧
    (completes (o.asAlu .or) t s = true → givesNext (.aluOR o) s (gave (logic orEq (·.orT)) r v (r ||| v))) ∧
    (completes (o.asAlu .and) t s = true → givesNext (.aluAND o) s (gave (logic andEq (·.andT)) r v (r &&& v))) ∧
    (completes (o.asAlu .notrs) t s = true →
      givesNext (.aluNOTRS o) s (gave (logic (onNotR andEq) (·.notrsT)) r v (~~~r &&& v))) ∧
    (completes (o.asAlu .exor) t s = true →
      givesNext (.aluEXOR o) s (gave (logic (onNotR exnorEq) (·.exorT)) r v (r ^^^ v))) ∧
    (completes (o.asAlu .exnor) t s = true →
      givesNext (.aluEXNOR o) s (gave (logic exnorEq (·.exnorT)) r v (~~~(r ^^^ v))))

/-- 40 R187: the laws of the carries, of the overflow, of the four nibble results and of Z and N. The nibble
results hold for every LOGIC_CARRY, so no function's result depends on the nibble tables. -/
def Obligations.CarryAndOverflowLaws : Prop :=
  ∀ (lc : LogicCarry) (r s : Word) (c : Bool),
    let carries (x y : Word) (g : Flags) : Prop :=
      g.nc = decide (16 ≤ x.toNat % 16 + y.toNat % 16 + c.toNat) ∧
        g.pgc = decide (256 ≤ x.toNat % 256 + y.toNat % 256 + c.toNat) ∧
        g.co = decide (65536 ≤ x.toNat + y.toNat + c.toNat)
    let overflows (x y f : Word) (g : Flags) : Prop :=
      g.ovf = ((x.getLsbD 15 == y.getLsbD 15) && (f.getLsbD 15 != x.getLsbD 15))
    carries r s (aluFlags lc .add r s c) ∧
    carries (~~~r) s (aluFlags lc .subr r s c) ∧
    carries r (~~~s) (aluFlags lc .subs r s c) ∧
    overflows r s (aluResult .add r s c) (aluFlags lc .add r s c) ∧
    overflows (~~~r) s (aluResult .subr r s c) (aluFlags lc .subr r s c) ∧
    overflows r (~~~s) (aluResult .subs r s c) (aluFlags lc .subs r s c) ∧
    (∀ f : AluFn,
      (aluFlags lc f r s c).z = decide (aluResult f r s c = 0) ∧
      (aluFlags lc f r s c).n = (aluResult f r s c).getLsbD 15 ∧
      ∀ k : Nat, k < 4 →
        nibble (aluResult f r s c) k =
          (let x := nibble r k
           let y := nibble s k
           let carry : BitVec 4 := if chainCarry (tableOf lc f) (chainR f r) (chainS f s) c k then 1 else 0
           match f with
           | .add => x + y + carry
           | .subr => y + ~~~x + carry
           | .subs => x + ~~~y + carry
           | .or => x ||| y
           | .and => x &&& y
           | .notrs => ~~~x &&& y
           | .exor => x ^^^ y
           | .exnor => ~~~(x ^^^ y)))

/-- 40 R161, R162: with the carry-in set, SUBR and SUBS subtract, and the carry out means no borrow. -/
def Obligations.SubtractionCarryMeansNoBorrow : Prop :=
  ∀ (lc : LogicCarry) (r s : Word),
    aluResult .subr r s true = s - r ∧ ((aluFlags lc .subr r s true).co = true ↔ r.toNat ≤ s.toNat) ∧
    aluResult .subs r s true = r - s ∧ ((aluFlags lc .subs r s true).co = true ↔ s.toNat ≤ r.toNat) ∧
    aluResult .subr r s false = s - r - 1 ∧ aluResult .subs r s false = r - s - 1

/-- 40 R176: Y, the result and the six flags carry no hidden history: they are the same from two states whose
operands and A are the same, whatever the words' other fields are (the flags on machines of one LOGIC_CARRY), and the
stored flags and Ylatch change nothing in a click. -/
def Obligations.AluCarriesNoHiddenHistory : Prop :=
  (∀ (m n : Microword) (t k : Task) (s s' : State),
    operandR m t s = operandR n k s' → operandS m s = operandS n s' → m.aF = n.aF → m.cin = n.cin →
      outF m t s = outF n k s' ∧ (s.params.logicCarry = s'.params.logicCarry → outFlags m t s = outFlags n k s') ∧
        (m.dest = n.dest → s.rf.read m.rA = s'.rf.read n.rA → outY m t s = outY n k s')) ∧
  (∀ (i : Instr) (t : Task) (s : State) (fl : Flags) (y : Word), s.cur = some t →
    exec i { s with flags := fl, ylatch := y } = exec i s)

/-- 40 R178, R180 to R185: what each destination's row writes to RF[rB] and to Q, and its Y, from F, Q and the
cycle bit; with the cycle bit the 32-bit pair of RAMQD and RAMQU rotates. -/
def Obligations.DestinationRowsWriteTheirRegisters : Prop :=
  ∀ (o : Microword) (t : Task) (s : State), s.cur = some t →
    let f := outF o t s
    let q := s.q.val
    let b := o.rB
    (completes (o.asDestQ .none) t s = true → givesNext (.destQREG o) s fun s' =>
      s'.q = ⟨f, true⟩ ∧ s'.rf = s.rf ∧ s'.ylatch = f) ∧
    (completes (o.asDest .none) t s = true → givesNext (.destNOP o) s fun s' =>
      s'.q = s.q ∧ s'.rf = s.rf ∧ s'.ylatch = f) ∧
    (completes (o.asDestQ .ram) t s = true → givesNext (.destRAMA o) s fun s' =>
      s'.q = s.q ∧ s'.rf = s.rf.write b f ∧ s'.ylatch = s.rf.read o.rA) ∧
    (completes (o.asDest .ram) t s = true → givesNext (.destRAMF o) s fun s' =>
      s'.q = s.q ∧ s'.rf = s.rf.write b f ∧ s'.ylatch = f) ∧
    (completes (o.asDestQ .down) t s = true → givesNext (.destRAMQD o) s fun s' =>
      s'.rf = s.rf.write b (BitVec.ofBool (if o.cycle then q.getLsbD 0 else false) ++ f.extractLsb' 1 15) ∧
      s'.q = ⟨BitVec.ofBool (f.getLsbD 0) ++ q.extractLsb' 1 15, true⟩ ∧ s'.ylatch = f ∧
      (o.cycle = true → s'.rf.read b ++ s'.q.val = (f ++ q).rotateRight 1) ∧
      (o.cycle = false → s'.rf.read b ++ s'.q.val = (f ++ q) >>> 1)) ∧
    (completes (o.asDest .down) t s = true → givesNext (.destRAMD o) s fun s' =>
      s'.rf = s.rf.write b (BitVec.ofBool (if o.cycle then f.getLsbD 0 else false) ++ f.extractLsb' 1 15) ∧
      s'.q = s.q ∧ s'.ylatch = f) ∧
    (completes (o.asDestQ .up) t s = true → givesNext (.destRAMQU o) s fun s' =>
      s'.rf = s.rf.write b (f.extractLsb' 0 15 ++ BitVec.ofBool (q.getLsbD 15)) ∧
      s'.q = ⟨q.extractLsb' 0 15 ++ BitVec.ofBool (if o.cycle then f.getLsbD 15 else false), true⟩ ∧
      s'.ylatch = f ∧
      (o.cycle = true → s'.rf.read b ++ s'.q.val = (f ++ q).rotateLeft 1) ∧
      (o.cycle = false → s'.rf.read b ++ s'.q.val = (f ++ q) <<< 1)) ∧
    (completes (o.asDest .up) t s = true → givesNext (.destRAMU o) s fun s' =>
      s'.rf = s.rf.write b (f.extractLsb' 0 15 ++ BitVec.ofBool (if o.cycle then f.getLsbD 15 else false)) ∧
      s'.q = s.q ∧ s'.ylatch = f)

/-- The CYCLE row completes: with a shift it rotates F, or the pair F and Q, by one; with another destination the
cycle bit has no effect; no shift sets a flag; and beyond RF[rB], Q and the word's own parity code its next state is
that of the same word without the cycle bit, which is FY NOP or FY QOp (40 R186; 42 R243, R244). -/
def Obligations.CycleRowRotates : Prop :=
  ∀ (o : Microword) (t : Task) (s : State), s.cur = some t → completes o.asCycle t s = true →
    let f := outF o t s
    ∃ s' s0, exec (.cycleShift o) s = .next s' ∧ exec (if o.qSel then .fyQOp o else .fyNOP o) s = .next s0 ∧
      s' = { s0 with rf := s'.rf, q := s'.q, trap := s'.trap } ∧
      (∀ j, j ≠ o.rB → s'.rf.read j = s0.rf.read j ∧ accRF s' j = accRF s0 j) ∧
      (∀ k, 1 ≤ k → s'.trap.errPending.getLsbD k = s0.trap.errPending.getLsbD k) ∧
      s'.trap = raiseTraps (trapsRaised o.asCycle t s) (trapStart o s) ∧
      s'.flags = outFlags o t s ∧
      (o.aD = .none → s'.rf = s.rf ∧ s'.q = if o.qSel then ⟨f, true⟩ else s.q) ∧
      (o.aD = .ram → s'.rf = s.rf.write o.rB f ∧ s'.q = s.q) ∧
      (o.aD = .down → o.qSel = false → s'.rf = s.rf.write o.rB (f.rotateRight 1) ∧ s'.q = s.q) ∧
      (o.aD = .up → o.qSel = false → s'.rf = s.rf.write o.rB (f.rotateLeft 1) ∧ s'.q = s.q) ∧
      (o.aD = .down → o.qSel = true → s'.rf.read o.rB ++ s'.q.val = (f ++ s.q.val).rotateRight 1) ∧
      (o.aD = .up → o.qSel = true → s'.rf.read o.rB ++ s'.q.val = (f ++ s.q.val).rotateLeft 1)

/-- 42 R241, R243, R244 (and R242 but for its ReadUnwritten, log 2): the FY rows NOP, QOp, Cycle and QCycle give
`aD` its four destinations, with zero fill or with rotation. -/
def Obligations.FYRowsChooseTheDestination : Prop :=
  ∀ (o : Microword) (t : Task) (s : State), s.cur = some t →
    let f := outF o t s
    let q := s.q.val
    let writes (b : Word) (s' : State) : Prop := s'.rf = s.rf.write o.rB b
    (completes (o.asFY .nop) t s = true → givesNext (.fyNOP o) s fun s' =>
      s'.q = s.q ∧ s'.ylatch = f ∧
      (o.aD = .none → s'.rf = s.rf) ∧ (o.aD = .ram → writes f s') ∧
      (o.aD = .down → writes (f >>> 1) s') ∧ (o.aD = .up → writes (f <<< 1) s')) ∧
    (completes (o.asFY .qOp) t s = true → givesNext (.fyQOp o) s fun s' =>
      (o.aD = .none → s'.rf = s.rf ∧ s'.q = ⟨f, true⟩ ∧ s'.ylatch = f) ∧
      (o.aD = .ram → writes f s' ∧ s'.q = s.q ∧ s'.ylatch = s.rf.read o.rA) ∧
      (o.aD = .down → s'.rf.read o.rB ++ s'.q.val = (f ++ q) >>> 1 ∧ s'.ylatch = f) ∧
      (o.aD = .up → s'.rf.read o.rB ++ s'.q.val = (f ++ q) <<< 1 ∧ s'.ylatch = f)) ∧
    (completes (o.asFY .cycle) t s = true → givesNext (.fyCycle o) s fun s' =>
      s'.q = s.q ∧ s'.ylatch = f ∧
      (o.aD = .none → s'.rf = s.rf) ∧ (o.aD = .ram → writes f s') ∧
      (o.aD = .down → writes (f.rotateRight 1) s') ∧ (o.aD = .up → writes (f.rotateLeft 1) s')) ∧
    (completes (o.asFY .qCycle) t s = true → givesNext (.fyQCycle o) s fun s' =>
      (o.aD = .none → s'.rf = s.rf ∧ s'.q = ⟨f, true⟩ ∧ s'.ylatch = f) ∧
      (o.aD = .ram → writes f s' ∧ s'.q = s.q ∧ s'.ylatch = s.rf.read o.rA) ∧
      (o.aD = .down → s'.rf.read o.rB ++ s'.q.val = (f ++ q).rotateRight 1 ∧ s'.ylatch = f) ∧
      (o.aD = .up → s'.rf.read o.rB ++ s'.q.val = (f ++ q).rotateLeft 1 ∧ s'.ylatch = f))

/-! ### The data bus and the X functions -/

/-- 41 R204, R209 to R211 (and R205, R206 but for their ReadUnwritten, log 2): the rows that only choose the data
bus complete at every state, with the bus value of the rule. BusIOP clears `iopReq`; BusErr clears nothing. -/
def Obligations.BusRowsDriveTheDataBus : Prop :=
  ∀ (o : Microword) (t : Task) (s : State), s.cur = some t →
    (givesNext (.fxNOP o) s fun s' => ranOn (o.asFX .nop) s s' s.inp.extBus ∧
      s'.rh = s.rh ∧ s'.io.iopReq = s.io.iopReq ∧ (o.isBD = false → s'.ib = s.ib) ∧
      s'.trap = raiseTraps (trapsRaised (o.asFX .nop) t s) s.trap) ∧
    (givesNext (.fxBusU o) s fun s' => ranOn (o.asFX .busU) s s' (s.u.read (uAddr o s))) ∧
    (givesNext (.fxBusRH o) s fun s' => ranOn (o.asFX .busRH) s s' ((s.rh.read o.rA).setWidth 16)) ∧
    (givesNext (.fxBusIOP o) s fun s' =>
      ranOn (o.asFX .busIOP) s s' (s.io.iopToCp.setWidth 16) ∧ s'.io.iopReq = false ∧
      State.reset.io.iopToCp = 0) ∧
    (givesNext (.fxBusLink o) s fun s' => ranOn (o.asFX .busLink) s s' ((s.link.get t).setWidth 16)) ∧
    (givesNext (.fxBusErr o) s fun s' =>
      ranOn (o.asFX .busErr) s s' ((errRead s.trap.errPending).setWidth 16) ∧
      (s.trap.errPending = 0 → ranOn (o.asFX .busErr) s s' 4) ∧
      (∀ k : Nat, s.trap.errPending.getLsbD k = true → (∀ j, j < k → s.trap.errPending.getLsbD j = false) →
        ranOn (o.asFX .busErr) s s' (BitVec.ofNat 16 k)) ∧
      ∀ k, s.trap.errPending.getLsbD k = true → s'.trap.errPending.getLsbD k = true)

/-- 41 R207, R208: BusIB and BusIBNA put the front byte on the bus, and only BusIB removes it; on an Empty buffer
some byte is there, IBEmpty is raised, nothing is consumed and the data phases do not happen. The word must not
also dispatch on the IB (30 R133). -/
def Obligations.IBReadRowsReadTheFrontByte : Prop :=
  ∀ (o : Microword) (t : Task) (s : State), s.cur = some t → o.y ≠ .bd .ibDisp → o.y ≠ .bd .alwaysIBDisp →
    (givesNext (.fxBusIB o) s fun s' =>
      (∀ b rest, s.ib = b :: rest → ranOn (o.asFX .busIB) s s' (b.setWidth 16) ∧ s'.ib = rest) ∧
      (s.ib = [] → (∃ b : Byte, ranOn (o.asFX .busIB) s s' (b.setWidth 16)) ∧ s'.ib = [] ∧
        s'.trap.errPending.getLsbD 3 = true ∧ s'.trap.intReq = true ∧
        (s.phase ≠ .c1 → s'.event = none))) ∧
    (givesNext (.fxBusIBNA o) s fun s' =>
      s'.ib = s.ib ∧
      (∀ b rest, s.ib = b :: rest → ranOn (o.asFX .busIBNA) s s' (b.setWidth 16)) ∧
      (s.ib = [] → (∃ b : Byte, ranOn (o.asFX .busIBNA) s s' (b.setWidth 16)) ∧
        s'.trap.errPending.getLsbD 3 = true ∧ s'.trap.intReq = true ∧
        (s.phase ≠ .c1 → s'.event = none)))

/-- 41 R213, 10 R33: IBLoad appends Y[7:0] at the back, after a dispatch of the same word has consumed; on a buffer
that is then Full, IB_OVERFLOW = Fault is the host fault IBOverflow and Discard completes with the bytes as they are.
The state's name moves on by one. -/
def Obligations.IBLoadAppendsOrOverflows : Prop :=
  ∀ (o : Microword) (t : Task) (s : State), s.cur = some t →
    let dispatches : Prop := (o.y = .bd .ibDisp ∨ o.y = .bd .alwaysIBDisp) ∧ cancelled (o.asFX .ibLoad) t s = false
    let rest := if dispatches then s.ib.tail else s.ib
    (rest.length < 3 → givesNext (.fxIBLoad o) s fun s' =>
      s'.ib = rest ++ [s'.ylatch.extractLsb' 0 8] ∧ ranOn (o.asFX .ibLoad) s s' s.inp.extBus ∧
      (¬dispatches →
        (accIBState s = .empty → accIBState s' = .oneByte) ∧
        (accIBState s = .oneByte → accIBState s' = .word) ∧
        (accIBState s = .word → accIBState s' = .full))) ∧
    (3 ≤ rest.length → s.params.ibOverflow = .fault → exec (.fxIBLoad o) s = .fault .ibOverflow) ∧
    (3 ≤ rest.length → s.params.ibOverflow = .discard → givesNext (.fxIBLoad o) s fun s' =>
      s'.ib = rest ∧ ranOn (o.asFX .ibLoad) s s' s.inp.extBus ∧
      s'.trap = raiseTraps (trapsRaised (o.asFX .ibLoad) t s) s.trap)

/-- 41 R212, R214: RHWrite writes the low byte of Y to RH[rB], and an address latch of the same step uses the old
RH[rA]; ClrIntErr leaves exactly the traps of its own step. Both have the external bus on D. -/
def Obligations.RHWriteAndClrIntErr : Prop :=
  ∀ (o : Microword) (t : Task) (s : State), s.cur = some t →
    (givesNext (.fxRHWrite o) s fun s' =>
      s'.rh = s.rh.write o.rB (s'.ylatch.extractLsb' 0 8) ∧ ranOn (o.asFX .rhWrite) s s' s.inp.extBus ∧
      (o.mem = true → s.phase = .c1 →
        s'.event = some (.latch (s.rh.read o.rA ++ s'.ylatch) (decide (o.y = .fy .map))))) ∧
    (givesNext (.fxClrIntErr o) s fun s' =>
      let raised := trapsRaised (o.asFX .clrIntErr) t s
      s'.trap.errPending = raised ∧ s'.trap.intReq = decide (raised ≠ 0) ∧
      ranOn (o.asFX .clrIntErr) s s' s.inp.extBus ∧
      (raised = 0 → accErr s' = 4 ∧ s'.trap.intReq = false))

/-- 41 R201: a literal word completes at every state, with the byte on the bus; no X function and no Z function
runs. -/
def Obligations.LiteralRowRunsNoXOrZFunction : Prop :=
  ∀ (o : Microword) (b : Byte) (t : Task) (s : State), s.cur = some t → o.xz = .lit b →
    givesNext (.lit o) s fun s' =>
      ranOn o s s' (b.setWidth 16) ∧
      s'.rh = s.rh ∧ s'.link = s.link ∧ s'.stackP = s.stackP ∧
      s'.trap = raiseTraps (trapsRaised o t s) s.trap ∧ s'.io.iopReq = s.io.iopReq ∧
      (o.isBD = false → s'.ib = s.ib ∧ s'.tpc.get t = o.inia) ∧
      ((∀ f, o.y ≠ .io f) → s'.io = s.io)

/-! ### The U register, the stack and the I/O functions -/

/-- 42 R250, R251: the SU-enable row writes Y at the word's U address, which is the new top for Push, the old top
for Pop and Pop2 and {rA, rB} otherwise; a BusU of the same word reads the old value there. -/
def Obligations.SUEnableWritesAtTheUAddress : Prop :=
  ∀ (o : Microword) (t : Task) (s : State), s.cur = some t → completes o.asEnSU t s = true →
    let a : BitVec 8 :=
      if o.xz.z? = some .push then (s.stackP + 1).setWidth 8
      else if o.xz.z? = some .pop ∨ o.xz.z? = some .pop2 then s.stackP.setWidth 8
      else o.rA ++ o.rB
    givesNext (.enSU o) s fun s' =>
      s'.u = s.u.write a s'.ylatch ∧ accU s' a = some s'.ylatch ∧
      (o.xz.x? = some .busU → ranOn o.asEnSU s s' (s.u.read a)) ∧
      (o.xz.z? = some .push ∨ o.xz.z? = some .pop ∨ o.xz.z? = some .pop2 → a.toNat < 16)

/-- 42 R249, R253 to R255: the stack pointer and the boundary trap of NOP, Push, Pop and Pop2, with the U address
each of them uses. -/
def Obligations.StackRowsMoveThePointer : Prop :=
  ∀ (o : Microword) (t : Task) (s : State), s.cur = some t →
    let sp := s.stackP
    let raises (z : ZField) (c : Bool) (s' : State) : Prop :=
      s'.trap.errPending.getLsbD 2 = ((trapStart (o.asZ z) s).errPending.getLsbD 2 || c) ∧
        (c = true → s'.trap.intReq = true)
    let usesU (z : ZField) (a : BitVec 8) (s' : State) : Prop :=
      (o.enSU = true → s'.u = s.u.write a s'.ylatch) ∧
        (o.xz.x? = some .busU → ranOn (o.asZ z) s s' (s.u.read a))
    (completes (o.asZ .nop) t s = true → givesNext (.fzNOP o) s fun s' =>
      s'.stackP = sp ∧ usesU .nop (o.rA ++ o.rB) s' ∧ raises .nop false s' ∧ s'.link = s.link) ∧
    (completes (o.asZ .push) t s = true → givesNext (.fzPush o) s fun s' =>
      s'.stackP = sp + 1 ∧ usesU .push ((sp + 1).setWidth 8) s' ∧ raises .push (decide (sp = 15)) s') ∧
    (completes (o.asZ .pop) t s = true → givesNext (.fzPop o) s fun s' =>
      s'.stackP = sp - 1 ∧ usesU .pop (sp.setWidth 8) s' ∧ raises .pop (decide (sp = 0)) s') ∧
    (completes (o.asZ .pop2) t s = true → givesNext (.fzPop2 o) s fun s' =>
      s'.stackP = sp - 2 ∧ usesU .pop2 (sp.setWidth 8) s' ∧
        raises .pop2 (decide (sp = 0) || decide (sp = 1)) s')

/-- 42 R260 to R262: the I/O functions in the Y field, whatever I/O function the Z field holds beside them, and
the NOP, which leaves the channel to the Z and X fields. The IOP takes the byte and clears the flag through its
ports. -/
def Obligations.IORowsOfTheYField : Prop :=
  ∀ (o : Microword) (t : Task) (s : State), s.cur = some t →
    let taken (s' : State) : Prop :=
      portRead 0xEB s' = .next { s' with reply := some s'.io.cpToIop, io := { s'.io with cpAck := false } }
    let seenAndCleared (s' : State) : Prop :=
      (∃ b : Byte, b.getLsbD 2 = true ∧ portRead 0xEC s' = .next { s' with reply := some b }) ∧
        ∀ v, portWrite 0xEE v s' = .next { s' with io := { s'.io with dmaComplete := false } }
    let goesOnAtINIA (s' : State) : Prop :=
      (∀ low, o.xz.z? ≠ some (.link low)) → s'.tpc.get t = o.inia
    (completes (o.asIOY .nop) t s = true → givesNext (.ioYNOP o) s fun s' =>
      ((∀ f, o.xz.z? ≠ some (.io f)) → o.xz.x? ≠ some .busIOP → s'.io = s.io) ∧ goesOnAtINIA s') ∧
    (completes (o.asIOY .iopOData) t s = true → givesNext (.ioYIOPOData o) s fun s' =>
      s'.io.cpToIop = s'.ylatch.extractLsb' 0 8 ∧ s'.io.cpAck = true ∧ taken s' ∧ goesOnAtINIA s') ∧
    (completes (o.asIOY .iopCtl) t s = true → givesNext (.ioYIOPCtl o) s fun s' =>
      s'.io.wakeMode = s.io.wakeMode.set (taskOfCode (s'.ylatch.extractLsb' 4 3))
        (wakeModeOfCode (s'.ylatch.extractLsb' 0 2)) ∧ goesOnAtINIA s') ∧
    (completes (o.asIOY .dmaDone) t s = true → givesNext (.ioYDMADone o) s fun s' =>
      s'.io.dmaComplete = true ∧ seenAndCleared s' ∧ goesOnAtINIA s')

/-- 42 R260 to R262 in the Z field: the same functions, whatever I/O function the Y field holds beside them. -/
def Obligations.IORowsOfTheZField : Prop :=
  ∀ (o : Microword) (t : Task) (s : State), s.cur = some t →
    (completes (o.asZ (.io .nop)) t s = true → givesNext (.ioZNOP o) s fun s' =>
      ((∀ f, o.y ≠ .io f) → o.xz.x? ≠ some .busIOP → s'.io = s.io) ∧ s'.link = s.link ∧ s'.stackP = s.stackP) ∧
    (completes (o.asZ (.io .iopOData)) t s = true → givesNext (.ioZIOPOData o) s fun s' =>
      s'.io.cpToIop = s'.ylatch.extractLsb' 0 8 ∧ s'.io.cpAck = true) ∧
    (completes (o.asZ (.io .iopCtl)) t s = true → givesNext (.ioZIOPCtl o) s fun s' =>
      s'.io.wakeMode = s.io.wakeMode.set (taskOfCode (s'.ylatch.extractLsb' 4 3))
        (wakeModeOfCode (s'.ylatch.extractLsb' 0 2))) ∧
    (completes (o.asZ (.io .dmaDone)) t s = true → givesNext (.ioZDMADone o) s fun s' =>
      s'.io.dmaComplete = true)

/-- 42 R245: Block clears the stored flag of the tasks 0, 5, 6 and 7 and nothing of a device task; the task's
next address is stored, and it can still be selected through its I/O wake term. -/
def Obligations.BlockClearsAStoredWakeup : Prop :=
  ∀ (o : Microword) (t : Task) (s : State), s.cur = some t → completes (o.asFY .block) t s = true →
    givesNext (.fyBlock o) s fun s' =>
      (t ∈ [Task.emulator, .iop, .iopcs, .kernel] →
        s'.wake = s.wake.set t false ∧ awake s'.wake s'.io t = ioWake s'.io t) ∧
      (t ∈ [Task.display, .ethernet, .refresh, .disk] → s'.wake = s.wake) ∧
      ((∀ low, o.xz.z? ≠ some (.link low)) → s'.tpc.get t = o.inia)

/-- 42 R246: Map marks the address latch of a c1 word, and in everything else the word does what it does with FY NOP in
the place of Map: the two codes differ in two bits, so the words' parity agrees too. -/
def Obligations.MapOnlyMarksTheLatch : Prop :=
  ∀ (o : Microword) (t : Task) (s : State), s.cur = some t → completes (o.asFY .map) t s = true →
    ∃ s1 s2, exec (.fyMap o) s = .next s1 ∧ exec (.fyNOP o) s = .next s2 ∧
      s1 = { s2 with event := s1.event } ∧
      (o.mem = true → s.phase = .c1 →
        s1.event = some (.latch (s.rh.read o.rA ++ s1.ylatch) true) ∧
        s2.event = some (.latch (s.rh.read o.rA ++ s1.ylatch) false)) ∧
      (o.mem = false ∨ s.phase ≠ .c1 → s1.event = s2.event)

/-! ### The next address -/

/-- 43 R281 to R289: each branch row completes and goes to INIA with its condition ORed into bit 0; the ALU
conditions are this step's own flags, `intReq` is that of the start, `xRef` the input. With bit 0 of INIA clear the
targets are INIA and INIA + 1, with it set both are INIA. -/
def Obligations.BranchRowsOrTheConditionIntoINIA : Prop :=
  (∀ (o : Microword) (t : Task) (s : State), s.cur = some t →
    let goes (c : Bool) (s' : State) : Prop :=
      s'.tpc.get t = (if c then o.inia ||| 1 else o.inia) ∧ s'.link = s.link
    let f := outF o t s
    (completes (o.asBD .negBr) t s = true → givesNext (.bdNegBr o) s fun s' =>
      goes s'.flags.n s' ∧ s'.flags.n = f.getLsbD 15) ∧
    (completes (o.asBD .zeroBr) t s = true → givesNext (.bdZeroBr o) s fun s' =>
      goes s'.flags.z s' ∧ s'.flags.z = decide (f = 0)) ∧
    (completes (o.asBD .nZeroBr) t s = true → givesNext (.bdNZeroBr o) s fun s' =>
      goes (!s'.flags.z) s' ∧ s'.flags.z = decide (f = 0)) ∧
    (completes (o.asBD .intBr) t s = true → givesNext (.bdIntBr o) s fun s' => goes s.trap.intReq s') ∧
    (completes (o.asBD .pgCarryBr) t s = true → givesNext (.bdPgCarryBr o) s fun s' =>
      goes s'.flags.pgc s' ∧ s'.flags = outFlags o t s) ∧
    (completes (o.asBD .carryBr) t s = true → givesNext (.bdCarryBr o) s fun s' =>
      goes s'.flags.co s' ∧ s'.flags = outFlags o t s) ∧
    (completes (o.asBD .xRefBr) t s = true → givesNext (.bdXRefBr o) s fun s' => goes s.inp.xRef s') ∧
    (completes (o.asBD .nibCarryBr) t s = true → givesNext (.bdNibCarryBr o) s fun s' =>
      goes s'.flags.nc s' ∧ s'.flags = outFlags o t s)) ∧
  ∀ a : CSAddr, (a.getLsbD 0 = false → a ||| 1 = a + 1) ∧ (a.getLsbD 0 = true → a ||| 1 = a)

/-- 43 R290, R291, R294: the three dispatches that never touch the IB. -/
def Obligations.IndexDispatchRowsOrTheirIndexIntoINIA : Prop :=
  ∀ (o : Microword) (t : Task) (s : State), s.cur = some t →
    let keepsIB (s' : State) : Prop := s'.ib = afterLoad o s' s.ib
    (completes (o.asBD .yDisp) t s = true → givesNext (.bdYDisp o) s fun s' =>
      s'.tpc.get t = o.inia ||| (s'.ylatch.extractLsb' 0 4).setWidth 12) ∧
    (completes (o.asBD .yIODisp) t s = true → givesNext (.bdYIODisp o) s fun s' =>
      s'.tpc.get t =
        o.inia ||| ((if s.io.iopReq then 2 else 0) ||| (if s.io.cpAck then 1 else 0))) ∧
    (completes (o.asBD .ibPtrDisp) t s = true → s.ib.length ≤ 3 → givesNext (.bdIBPtrDisp o) s fun s' =>
      (s.ib.length = 0 → s'.tpc.get t = o.inia) ∧
      (s.ib.length = 1 → s'.tpc.get t = o.inia ||| 1) ∧
      (s.ib.length = 2 → s'.tpc.get t = o.inia ||| 2) ∧
      (s.ib.length = 3 → s'.tpc.get t = o.inia ||| 3) ∧
      (o.xz.x? ≠ some .busIB → keepsIB s') ∧
      (o.xz.x? ≠ some .busIB → o.xz.x? ≠ some .busIBNA →
        s'.trap.errPending.getLsbD 3 = (trapStart o s).errPending.getLsbD 3))

/-- 43 R292, R293: the three cases of the buffer dispatch, in order: Empty (only IBDisp traps), cancelled by a page
cross, and the dispatch on the front byte, which is removed. -/
def Obligations.BufferDispatchRowsConsumeTheFrontByte : Prop :=
  ∀ (o : Microword) (t : Task) (s : State), s.cur = some t →
    let outcome (s' : State) : Prop :=
      (s.ib = [] → s'.tpc.get t = o.inia ∧ s'.ib = afterLoad o s' []) ∧
      (∀ b rest, s.ib = b :: rest → pageCancel o s s' = true →
        s'.tpc.get t = o.inia ∧ s'.ib = afterLoad o s' s.ib) ∧
      (∀ b rest, s.ib = b :: rest → pageCancel o s s' = false →
        s'.tpc.get t = o.inia ||| b.setWidth 12 ∧ s'.ib = afterLoad o s' rest)
    let emptyBit (s' : State) : Bool := s'.trap.errPending.getLsbD 3
    (completes (o.asBD .ibDisp) t s = true → givesNext (.bdIBDisp o) s fun s' =>
      outcome s' ∧
      (s.ib = [] → emptyBit s' = true ∧ s'.trap.intReq = true ∧ (s.phase ≠ .c1 → s'.event = none)) ∧
      (s.ib ≠ [] → emptyBit s' = (trapStart o s).errPending.getLsbD 3)) ∧
    (completes (o.asBD .alwaysIBDisp) t s = true → givesNext (.bdAlwaysIBDisp o) s fun s' =>
      outcome s' ∧ emptyBit s' = (trapStart o s).errPending.getLsbD 3)

/-- 43 R296, R297: the Link row writes Link[cur] when bit 11 of INIA is clear and merges it into the next address when
it is set. In a branch or dispatch word it does neither: Link stays, and the next address is that of the same word
with FZ NOP, whatever bit 11 is. -/
def Obligations.LinkRowWritesOrMerges : Prop :=
  ∀ (o : Microword) (t : Task) (s : State), s.cur = some t → completes o.asLink t s = true →
    givesNext (.fzLink o) s fun s' =>
      s'.stackP = s.stackP ∧ (o.enSU = true → s'.u = s.u.write (o.rA ++ o.rB) s'.ylatch) ∧
      (o.isBD = true → s'.link = s.link ∧ ∃ s0, exec (.fzNOP o) s = .next s0 ∧ s'.tpc = s0.tpc) ∧
      (o.isBD = false → o.inia.getLsbD 11 = false →
        s'.link = s.link.set t (o.inia.extractLsb' 0 4) ∧ s'.tpc.get t = o.inia) ∧
      (o.isBD = false → o.inia.getLsbD 11 = true →
        s'.link = s.link ∧ s'.tpc.get t = o.inia ||| (s.link.get t).setWidth 12)

/-- 43 R280, R298, R299: only `TPC[cur]` changes; a word that is neither a branch or dispatch nor a link operation
goes to INIA and leaves Link alone; and, with at most three bytes in the IB (10 R33), no word changes any of the
bits 11:8 of INIA in the next address. -/
def Obligations.NextAddressIsINIAUnlessAFunctionChangesIt : Prop :=
  ∀ (i : Instr) (m : Microword) (t : Task) (s s' : State), i.body = .word m → s.cur = some t →
    exec i s = .next s' →
      (∀ k, k ≠ t → s'.tpc.get k = s.tpc.get k ∧ s'.link.get k = s.link.get k) ∧
      (m.isBD = false → (∀ low, m.xz.z? ≠ some (.link low)) → s'.tpc.get t = m.inia ∧ s'.link = s.link) ∧
      (s.ib.length ≤ 3 → (s'.tpc.get t).extractLsb' 8 4 = m.inia.extractLsb' 8 4) ∧
      (s'.tpc.get t) &&& m.inia = m.inia

/-! ### Memory phases and the page cross -/

/-- 44 R321 to R323 (ReadUnwritten aside, log 2), 20 R75: the event of a word with the memory-phase bit, in each
phase. The three rows share their bits, so each row's statement covers every phase. -/
def Obligations.MemoryRowsEmitTheEventOfThePhase : Prop :=
  ∀ (o : Microword) (t : Task) (s : State), s.cur = some t → completes o.asMem t s = true →
    let emptyRead : Prop :=
      s.ib = [] ∧ (o.xz.x? = some .busIB ∨ o.xz.x? = some .busIBNA ∨ o.y = .bd .ibDisp)
    let suppress : Prop := s.pageCross = true ∨ emptyRead
    let emits (s' : State) : Prop :=
      (s.phase = .c1 → s'.event = some (.latch (s.rh.read o.rA ++ s'.ylatch) (decide (o.y = .fy .map)))) ∧
      (s.phase = .c2 → (suppress → s'.event = none) ∧ (¬suppress → s'.event = some (.write s'.ylatch))) ∧
      (s.phase = .c3 → (suppress → s'.event = none) ∧ (¬suppress → s'.event = some .read)) ∧
      s'.pageCross = (decide (s.phase = .c1) && s'.flags.pgc)
    givesNext (.memLatch o) s emits ∧ givesNext (.memWrite o) s emits ∧ givesNext (.memRead o) s emits

/-- 44 R320, R324: without the memory-phase bit there is no event and no page cross; a page cross is set by a c1
latch whose own ALU operation carries into bit 8, and lasts one click. -/
def Obligations.NoMemoryPhaseNoEventNoPageCross : Prop :=
  ∀ (i : Instr) (m : Microword) (t : Task) (s s' : State), i.body = .word m → s.cur = some t →
    exec i s = .next s' →
      (m.mem = false → s'.event = none ∧ s'.pageCross = false) ∧
      (s'.pageCross = true ↔ s.phase = .c1 ∧ m.mem = true ∧ s'.flags.pgc = true)

/-- 44 R325: nothing but the data operations and the buffer dispatch is cancelled by a page cross: from two states
that differ only in the page-cross flag, one word does the same to every register, to the stack, to Link, to the
flags, to the wakeups and to the channel, and without a buffer dispatch also to the IB and to TPC. -/
def Obligations.PageCrossCancelsNothingElse : Prop :=
  ∀ (i : Instr) (m : Microword) (t : Task) (s p q : State) (c d : Bool), i.body = .word m → s.cur = some t →
    exec i { s with pageCross := c } = .next p → exec i { s with pageCross := d } = .next q →
      p.rf = q.rf ∧ p.q = q.q ∧ p.flags = q.flags ∧ p.ylatch = q.ylatch ∧ p.rh = q.rh ∧ p.u = q.u ∧
      p.link = q.link ∧ p.wake = q.wake ∧ p.stackP = q.stackP ∧ p.io = q.io ∧ p.pageCross = q.pageCross ∧
      p.phase = q.phase ∧ p.cur = q.cur ∧
      (m.y ≠ .bd .ibDisp → m.y ≠ .bd .alwaysIBDisp → p.ib = q.ib ∧ p.tpc = q.tpc) ∧
      (s.phase = .c1 ∨ m.mem = false → p.event = q.event ∧ p.trap = q.trap)

/-! ### Traps -/

/-- 60 R402: the four codes a word raises, each by its own cause (R405 to R408) and all together, are added after
the clear of ClrIntErr, and any of them requests an interrupt. -/
def Obligations.TrapsAreAddedAfterTheClear : Prop :=
  ∀ (i : Instr) (m : Microword) (t : Task) (s s' : State), i.body = .word m → s.cur = some t →
    exec i s = .next s' →
      let start := trapStart m s
      let parity := parityFails s.params.parityMode m.encode
      let empty : Bool := s.ib.isEmpty &&
        decide (m.xz.x? = some .busIB ∨ m.xz.x? = some .busIBNA ∨ m.y = .bd .ibDisp)
      let memory : Bool := s.inp.memErr && decide (t = .emulator) && m.mem && decide (s.phase ≠ .c1) &&
        !s.pageCross && !empty
      let stack : Bool :=
        (decide (m.xz.z? = some .push) && decide (s.stackP = 15)) ||
        (decide (m.xz.z? = some .pop) && decide (s.stackP = 0)) ||
        (decide (m.xz.z? = some .pop2) && decide (s.stackP.toNat ≤ 1))
      s'.trap.errPending.getLsbD 0 = (start.errPending.getLsbD 0 || parity) ∧
      s'.trap.errPending.getLsbD 1 = (start.errPending.getLsbD 1 || memory) ∧
      s'.trap.errPending.getLsbD 2 = (start.errPending.getLsbD 2 || stack) ∧
      s'.trap.errPending.getLsbD 3 = (start.errPending.getLsbD 3 || empty) ∧
      s'.trap.intReq = (start.intReq || parity || memory || stack || empty)

/-- 30 R136: the parity check counts the ones of the word, parity bit included, under each mode. -/
def Obligations.ParityCheckCountsTheOnes : Prop :=
  ∀ w : ControlWord,
    let ones := (List.range 48).countP fun k => w.getLsbD k
    parityFails .odd w = decide (ones % 2 = 0) ∧ parityFails .even w = decide (ones % 2 = 1) ∧
      parityFails .off w = false

/-- 60 R403: the error code read is the smallest pending code, and 4 when none is pending. -/
def Obligations.ErrorCodeIsTheSmallestPending : Prop :=
  ∀ p : BitVec 4,
    (p = 0 → errRead p = 4) ∧
    (p ≠ 0 → p.getLsbD (errRead p).toNat = true ∧ ∀ k, k < (errRead p).toNat → p.getLsbD k = false)

/-- 60 R400, R409: a trap changes only the pending codes and the interrupt request. What a step does to every other
piece of state, and whether it completes, does not depend on the trap register, unless the word reads it (BusErr)
or branches on the interrupt request (IntBr). -/
def Obligations.TrapRegisterChangesNothingElse : Prop :=
  ∀ (i : Instr) (m : Microword) (t : Task) (s : State) (r : TrapRegs), i.body = .word m → s.cur = some t →
    m.xz.x? ≠ some .busErr → m.y ≠ .bd .intBr →
      (∀ s', exec i s = .next s' → ∃ k, exec i { s with trap := r } = .next { s' with trap := k }) ∧
      (∀ e, exec i s = .fault e → exec i { s with trap := r } = .fault e)

/-! ### Every word: completion and frame -/

/-- Every valid word, of each of the 74 constructors that carry one, completes exactly when it reads the IB at most
once (30 R133) and an IBLoad finds room or IB_OVERFLOW is Discard (41 R213); otherwise it is the host fault of that
rule. That a word completes on a register that nothing has written is the model's choice (log 2): 10 R42 faults
ReadUnwritten there by default and lets a model take a value. With no current task the click is idle, a convention of
the model (log 11). -/
def Obligations.EveryValidWordCompletes : Prop :=
  ∀ (i : Instr) (m : Microword) (s : State), i.body = .word m →
    (∀ t, s.cur = some t →
      (completes m t s = true → givesNext i s fun s' =>
        ranOn m s s' (busD m t s) ∧ s'.cur = some t ∧ s'.phase = phaseSucc s.phase) ∧
      (m.oneIBRead = false → exec i s = .fault .invalidControlWord) ∧
      (m.oneIBRead = true → completes m t s = false → exec i s = .fault .ibOverflow)) ∧
    (s.cur = none → exec i s = .next (idleClick s))

/-- What a word leaves unchanged, register by register, flag by flag and for every control-store word: only its
destination writes RF and Q, RHWrite RH, the SU bit U, Push, Pop and Pop2 the pointer, the IB functions the IB, the
I/O functions and BusIOP the channel, Block the wakeup, ClrIntErr a pending code (45 R358; 20 R72; 42 R256). -/
def Obligations.WhatAWordLeavesUnchanged : Prop :=
  ∀ (i : Instr) (m : Microword) (t : Task) (s s' : State), i.body = .word m → s.cur = some t →
    exec i s = .next s' →
      let x := m.xz.x?
      let z := m.xz.z?
      let ioFn (f : IOFn) : Prop := m.y = .io f ∨ z = some (.io f)
      (∀ j, j ≠ m.rB → s'.rf.read j = s.rf.read j ∧ accRF s' j = accRF s j) ∧
      (m.dest = .nop ∨ m.dest = .qreg → s'.rf = s.rf) ∧
      (m.dest ≠ .qreg → m.dest ≠ .ramqd → m.dest ≠ .ramqu → s'.q = s.q) ∧
      (∀ j, j ≠ m.rB → s'.rh.read j = s.rh.read j ∧ accRH s' j = accRH s j) ∧
      (x ≠ some .rhWrite → s'.rh = s.rh) ∧
      (∀ a, a ≠ uAddr m s → s'.u.read a = s.u.read a ∧ accU s' a = accU s a) ∧
      (m.enSU = false → s'.u = s.u) ∧
      (∀ k, k ≠ t → s'.tpc.get k = s.tpc.get k ∧ s'.link.get k = s.link.get k ∧ s'.wake.get k = s.wake.get k) ∧
      ((∀ low, z ≠ some (.link low)) → s'.link = s.link) ∧
      (m.y ≠ .fy .block → s'.wake = s.wake) ∧
      (z ≠ some .push → z ≠ some .pop → z ≠ some .pop2 → s'.stackP = s.stackP) ∧
      (x ≠ some .busIB → x ≠ some .ibLoad → m.y ≠ .bd .ibDisp → m.y ≠ .bd .alwaysIBDisp → s'.ib = s.ib) ∧
      (x ≠ some .clrIntErr → ∀ k, s.trap.errPending.getLsbD k = true → s'.trap.errPending.getLsbD k = true) ∧
      (x ≠ some .clrIntErr → s.trap.intReq = true → s'.trap.intReq = true) ∧
      s'.io.iopToCp = s.io.iopToCp ∧ s'.io.dmaMode = s.io.dmaMode ∧
      (x ≠ some .busIOP → s'.io.iopReq = s.io.iopReq) ∧
      (¬ioFn .iopOData → s'.io.cpToIop = s.io.cpToIop ∧ s'.io.cpAck = s.io.cpAck) ∧
      (¬ioFn .dmaDone → s'.io.dmaComplete = s.io.dmaComplete) ∧
      (¬ioFn .iopCtl → s'.io.wakeMode = s.io.wakeMode) ∧
      (∀ k, k ≠ taskOfCode (s'.ylatch.extractLsb' 4 3) → s'.io.wakeMode.get k = s.io.wakeMode.get k) ∧
      (∀ a, accCS s' a = accCS s a) ∧ s'.cs = s.cs ∧
      s'.csStage = s.csStage ∧ s'.tpcSel = s.tpcSel ∧ s'.tpcHi = s.tpcHi ∧ s'.cur = s.cur ∧ s'.params = s.params ∧
      s'.inp = s.inp ∧ s'.agenda = s.agenda ∧ s'.reply = s.reply

/-! ### The click and the step -/

/-- When the current task's word decodes to an instruction, the step is `exec` of that instruction, after the
device sampling and the selection of the click; an unloaded word is the host fault CSUnloaded (45 R351; 20 R71,
R73). The click is the host's next operation, or, with no operation left, one with free inputs (log 3, log 4). -/
def Obligations.StepRunsTheDecodedInstruction : Prop :=
  ∀ (s : State) (inp : Inputs) (t : Task) (next : State),
    ((∃ rest, s.agenda = .executeClick inp :: rest ∧ next = { s with agenda := rest }) ∨
      (s.agenda = [] ∧ inp = Config.freeInputs s.draws ∧ next = s)) →
    (beginClick inp next).cur = some t →
      (∀ w, s.cs.read (s.tpc.get t).toNat = some w →
        step s = exec (decode s.phase w) (beginClick inp next)) ∧
      (∀ i : Instr, i.wf = true → s.cs.read (s.tpc.get t).toNat = some (encode i) → decode s.phase (encode i) = i →
        step s = exec i (beginClick inp next)) ∧
      (s.cs.read (s.tpc.get t).toNat = none → step s = .fault .csUnloaded)

/-- A step whose current task's word is the encoding of a well-formed instruction runs that instruction, whichever
row the decoder names the word by (45 R351; 30 R135). -/
def Obligations.StepRunsEveryEncodedInstruction : Prop :=
  ∀ (s : State) (inp : Inputs) (rest : List HostOp) (t : Task) (i : Instr),
    s.agenda = .executeClick inp :: rest → i.wf = true →
    (beginClick inp { s with agenda := rest }).cur = some t →
    s.cs.read (s.tpc.get t).toNat = some (encode i) →
      step s = exec i (beginClick inp { s with agenda := rest })

/-- The word placed by `withFetchWord` is the one the very next step runs, at every state whose TASK_PRIORITY is a
total order (the model's stand-in for the load of a program, log 7). -/
def Obligations.PlacedWordIsRunByTheNextStep : Prop :=
  ∀ (s : State) (w : Nat), s.params.wf = true → w < 2 ^ 48 →
    step (s.withFetchWord 48 w) =
      exec (decode s.phase (BitVec.ofNat 48 w))
        (beginClick Inputs.zero { s.withFetchWord 48 w with agenda := [] })

/-- 45 R352, R353, R355: the current task of a click is awake, by its flag or by its I/O wake term, and no task
before it in TASK_PRIORITY is; with the default order no task of a lower number is. A click is idle exactly when no
task is awake. -/
def Obligations.SelectionTakesTheFirstAwakeTask : Prop :=
  ∀ (inp : Inputs) (s s' : State), executeClick inp s = .next s' →
    let flag (c : BitVec 3) : Bool :=
      if c = 1 then inp.wakeDisplay
      else if c = 2 then inp.wakeEthernet
      else if c = 3 then inp.wakeRefresh
      else if c = 4 then inp.wakeDisk
      else s.wake.get (taskOfCode c)
    let ioTerm (c : BitVec 3) : Prop :=
      (s.io.wakeMode.get (taskOfCode c) = .input ∧ s.io.iopReq = true) ∨
      (s.io.wakeMode.get (taskOfCode c) = .output ∧ s.io.cpAck = false) ∨
      s.io.wakeMode.get (taskOfCode c) = .always
    let isAwake (c : BitVec 3) : Prop := flag c = true ∨ ioTerm c
    (∀ c, s'.cur = some (taskOfCode c) ↔ isAwake c ∧ ∃ before after,
      s.params.taskPriority = before ++ taskOfCode c :: after ∧ ∀ k, taskOfCode k ∈ before → ¬isAwake k) ∧
    (s.params.taskPriority = [0, 1, 2, 3, 4, 5, 6, 7].map taskOfCode →
      ∀ c, s'.cur = some (taskOfCode c) ↔ isAwake c ∧ ∀ k, k < c → ¬isAwake k) ∧
    (s.params.wf = true → (s'.cur = none ↔ ∀ c, ¬isAwake c))

/-- 45 R354: every click, idle or not, leaves the sampled inputs in the flags of the device tasks; neither the
microprogram nor `setWake` writes them. -/
def Obligations.DeviceWakesAreTheSampledInputs : Prop :=
  (∀ (inp : Inputs) (s s' : State), executeClick inp s = .next s' →
    s'.wake.display = inp.wakeDisplay ∧ s'.wake.ethernet = inp.wakeEthernet ∧
      s'.wake.refresh = inp.wakeRefresh ∧ s'.wake.disk = inp.wakeDisk) ∧
  (∀ (t : Nat) (b : Bool) (s s' : State), setWake t b s = .next s' →
    s'.wake.display = s.wake.display ∧ s'.wake.ethernet = s.wake.ethernet ∧
      s'.wake.refresh = s.wake.refresh ∧ s'.wake.disk = s.wake.disk)

/-- 45 R356: with no task awake the click samples the device wakes, becomes Idle, takes the page-cross flag and
advances the phase, and does nothing else; the model's own fields `inp`, `event` and `draws` record the click. -/
def Obligations.IdleClickOnlyAdvancesThePhase : Prop :=
  ∀ (inp : Inputs) (s : State),
    (∀ t, awake (sampleWakes inp s.wake) s.io t = false) →
      executeClick inp s = .next { s with
        wake := { s.wake with
          display := inp.wakeDisplay
          ethernet := inp.wakeEthernet
          refresh := inp.wakeRefresh
          disk := inp.wakeDisk }
        cur := none
        pageCross := false
        phase := phaseSucc s.phase
        inp := inp
        event := none
        draws := s.draws + 1 }

/-- 10 R31: every click that completes, idle or not, advances the phase c1, c2, c3, c1; it runs in the phase it
reads at its start; after reset it is c1. -/
def Obligations.EveryClickAdvancesThePhase : Prop :=
  (∀ (inp : Inputs) (s s' : State), executeClick inp s = .next s' →
    (s.phase = .c1 → s'.phase = .c2) ∧ (s.phase = .c2 → s'.phase = .c3) ∧ (s.phase = .c3 → s'.phase = .c1) ∧
      (∀ a m, s'.event = some (.latch a m) → s.phase = .c1) ∧
      (∀ d, s'.event = some (.write d) → s.phase = .c2) ∧
      (s'.event = some .read → s.phase = .c3)) ∧
  State.reset.phase = .c1

/-! ### The host -/

/-- 45 R361, 20 R71, R73: `writeCS` loads the word it is given at its own address and nowhere else, and refuses an
address or a word out of range. -/
def Obligations.WriteCSLoadsOneWord : Prop :=
  ∀ (a w : Nat) (s : State),
    (a < 4096 → w < 2 ^ 48 → ∃ s', writeCS a w s = .next s' ∧
      accCS s' (BitVec.ofNat 12 a) = some (BitVec.ofNat 48 w) ∧
      (∀ b : CSAddr, b ≠ BitVec.ofNat 12 a → accCS s' b = accCS s b) ∧ s' = { s with cs := s'.cs } ∧
      ∀ t, s'.tpc.get t = BitVec.ofNat 12 a → fetchWord t s' = some (BitVec.ofNat 48 w)) ∧
    (4096 ≤ a ∨ 2 ^ 48 ≤ w → writeCS a w s = .fault .badAddress)

/-- 20 R72: no step but the host's `writeCS` and its write of slot f changes the control store. -/
def Obligations.OnlyTheHostWritesTheControlStore : Prop :=
  ∀ s s' : State, step s = .next s' → s'.cs ≠ s.cs →
    ∃ rest, (∃ a w, s.agenda = .writeCS a w :: rest) ∨ ∃ v, s.agenda = .portWrite 0xFD v :: rest

/-- 45 R362: `setWake` sets the flag of the tasks 0, 5, 6 and 7 and faults for every other number. -/
def Obligations.SetWakeSetsAStoredFlag : Prop :=
  ∀ (b : Bool) (s : State),
    setWake 0 b s = .next { s with wake := { s.wake with emulator := b } } ∧
    setWake 5 b s = .next { s with wake := { s.wake with iop := b } } ∧
    setWake 6 b s = .next { s with wake := { s.wake with iopcs := b } } ∧
    setWake 7 b s = .next { s with wake := { s.wake with kernel := b } } ∧
    ∀ t : Nat, (1 ≤ t ∧ t ≤ 4) ∨ 8 ≤ t → setWake t b s = .fault .badTask

/-- 60 R416, R418, R424, R425: what each port read returns, its side effect, and its
faults. -/
def Obligations.PortReadsReturnTheMap : Prop :=
  ∀ s : State,
    let answers (b : Byte) : Host.Outcome State Fault Refusal := .next { s with reply := some b }
    let bit (c : Bool) (n : Nat) : Nat := if c then n else 0
    portRead 0xEB s = .next { s with reply := some s.io.cpToIop, io := { s.io with cpAck := false } } ∧
    portRead 0xEC s = answers (BitVec.ofNat 8
      (bit s.io.cpAck 1 + bit s.io.iopReq 2 + bit s.io.dmaComplete 4 + bit s.io.dmaMode 8)) ∧
    portRead 0xFE s = answers (0#1 ++ s.tpcSel ++ (s.tpc.get (taskOfCode s.tpcSel)).extractLsb' 8 4) ∧
    portRead 0xFF s = answers ((s.tpc.get (taskOfCode s.tpcSel)).extractLsb' 0 8) ∧
    (∀ k : Nat, k < 6 →
      (∀ w, accCS s s.tpc.iopcs = some w →
        portRead (BitVec.ofNat 8 (0xF8 + k)) s = answers (w.extractLsb' (40 - 8 * k) 8)) ∧
      (accCS s s.tpc.iopcs = none → portRead (BitVec.ofNat 8 (0xF8 + k)) s = .fault .csUnloaded)) ∧
    ∀ p : Byte, p ≠ 0xEB → p ≠ 0xEC → p.toNat < 0xF8 → portRead p s = .fault .portOutsideCore

/-- 60 R417, R419, R420, R422, R423: what each port write does, and its faults. -/
def Obligations.PortWritesUpdateTheMap : Prop :=
  ∀ (v : Byte) (s : State),
    portWrite 0xEB v s = .next { s with io := { s.io with iopToCp := v, iopReq := true } } ∧
    portWrite 0xEC v s = .next { s with
      io := { s.io with dmaMode := v.getLsbD 0 }
      trap := { s.trap with intReq := if v.getLsbD 1 then true else s.trap.intReq } } ∧
    portWrite 0xEE v s = .next { s with io := { s.io with dmaComplete := false } } ∧
    portWrite 0xFE v s = .next { s with tpcSel := v.extractLsb' 4 3, tpcHi := v.extractLsb' 0 4 } ∧
    portWrite 0xFF v s = .next { s with tpc := s.tpc.set (taskOfCode s.tpcSel) (s.tpcHi ++ v) } ∧
    (∀ (k : Nat) (h : k < 5),
      portWrite (BitVec.ofNat 8 (0xF8 + k)) v s = .next { s with csStage := s.csStage.set k v (by omega) }) ∧
    (∃ s', portWrite 0xFD v s = .next s' ∧ s' = { s with cs := s'.cs, csStage := s.csStage.set 5 v (by decide) } ∧
      accCS s' s.tpc.iopcs = some (s.csStage[0] ++ s.csStage[1] ++ s.csStage[2] ++ s.csStage[3] ++ s.csStage[4] ++ v) ∧
      ∀ a, a ≠ s.tpc.iopcs → accCS s' a = accCS s a) ∧
    ∀ p : Byte, p ≠ 0xEB → p ≠ 0xEC → p ≠ 0xEE → p.toNat < 0xF8 → portWrite p v s = .fault .portOutsideCore

/-! ### Reset and invariants -/

/-- 70 R450: what the host sees of a machine of any parameters after reset. The values that RF, Q,
RH and U hold unseen are the model's choice (log 1) and no part of this. -/
def Obligations.ResetLeavesTheValuesOfTheRule : Prop :=
  ∀ p : Params,
  let s := { State.reset with params := p }
  (∀ i, accRF s i = none) ∧ accQ s = none ∧ (∀ i, accRH s i = none) ∧ (∀ i, accU s i = none) ∧
  s.flags = ⟨false, false, false, false, false, false⟩ ∧ s.ylatch = 0 ∧
  (∀ t, s.tpc.get t = 0 ∧ s.link.get t = 0 ∧ s.wake.get t = false ∧ s.io.wakeMode.get t = .disabled) ∧
  s.cur = none ∧ s.phase = .c1 ∧ s.stackP = 0 ∧ accIBState s = .empty ∧ s.ib = [] ∧
  s.trap.errPending = 0 ∧ accErr s = 4 ∧ s.trap.intReq = false ∧ s.pageCross = false ∧
  s.io.iopToCp = 0 ∧ s.io.cpToIop = 0 ∧ s.io.iopReq = false ∧ s.io.cpAck = false ∧
  s.io.dmaMode = false ∧ s.io.dmaComplete = false ∧ (∀ a, accCS s a = none) ∧
  (∀ k : Nat, ∀ h : k < 6, s.csStage[k]'h = 0) ∧ s.tpcSel = 0 ∧ s.tpcHi = 0

/-- 70 R451: a machine with no stored wakeup flag set and every wake mode Disabled, as it is after reset, is idle at
every click whose device inputs are false and stays so; only setWake or a device input ends this. -/
def Obligations.ResetMachineIdlesUntilWoken : Prop :=
  let asleep (s : State) : Prop :=
    s.wake.emulator = false ∧ s.wake.iop = false ∧ s.wake.iopcs = false ∧ s.wake.kernel = false ∧
      ∀ t, s.io.wakeMode.get t = .disabled
  let deviceWakes (inp : Inputs) : Prop :=
    inp.wakeDisplay = true ∨ inp.wakeEthernet = true ∨ inp.wakeRefresh = true ∨ inp.wakeDisk = true
  asleep State.reset ∧
  (∀ (inp : Inputs) (s : State), asleep s → ¬deviceWakes inp →
    ∃ s', executeClick inp s = .next s' ∧ s'.cur = none ∧ asleep s' ∧ s'.event = none ∧ s'.rf = s.rf ∧ s'.q = s.q ∧
      s'.tpc = s.tpc ∧ s'.link = s.link ∧ s'.flags = s.flags ∧ s'.trap = s.trap ∧ s'.io = s.io ∧ s'.cs = s.cs) ∧
  ∀ s s' : State, asleep s → step s = .next s' →
    asleep s' ∨
      (∃ inp rest, s.agenda = .executeClick inp :: rest ∧ deviceWakes inp) ∨
      (s.agenda = [] ∧ deviceWakes (Config.freeInputs s.draws)) ∨
      ∃ t rest, s.agenda = .setWake t true :: rest

/-- The state after reset is sound: the control store in its canonical form, at most three bytes in the IB, no
pending code without an interrupt request, TASK_PRIORITY a total order. It has the parameters' defaults (00 R6), and
with any others whose TASK_PRIORITY is a total order it is sound too. -/
def Obligations.ResetIsSound : Prop :=
  State.reset.sound = true ∧
  State.reset.params =
    ⟨.odd, [.emulator, .display, .ethernet, .refresh, .disk, .iop, .iopcs, .kernel], .am2901, .fault⟩ ∧
  ∀ p : Params, p.wf = true → { State.reset with params := p }.sound = true

/-- Every step, a click or a host operation, keeps a sound state sound: the control store stays in its canonical
form within 4096 words (10 R38), the IB within three bytes (10 R33), and a pending trap code keeps its interrupt
request (60 R402, R404, R411). No step of any state changes a parameter of the machine (00 R6). -/
def Obligations.EveryStepKeepsTheStateSound : Prop :=
  ∀ s s' : State, step s = .next s' → s'.params = s.params ∧ (s.sound = true → s'.sound = true)

/-- Every step keeps the device tasks' wakeup flags equal to the last sampled inputs, and the state after reset has
them so (45 R354, on the model's field `inp`, log 4). -/
def Obligations.EveryStepKeepsTheDeviceFlagsSampled : Prop :=
  let sampled (s : State) : Prop :=
    s.wake.display = s.inp.wakeDisplay ∧ s.wake.ethernet = s.inp.wakeEthernet ∧
      s.wake.refresh = s.inp.wakeRefresh ∧ s.wake.disk = s.inp.wakeDisk
  sampled State.reset ∧ ∀ s s' : State, sampled s → step s = .next s' → sampled s'

/-- 60 R411, R404: the interrupt request becomes true only by a trap of the step or by the control port, and false
only by ClrIntErr; a pending code is never removed otherwise. -/
def Obligations.InterruptRequestHasItsTwoSources : Prop :=
  ∀ s s' : State, step s = .next s' →
    (s.trap.intReq = false → s'.trap.intReq = true →
      s'.trap.errPending ≠ 0 ∨ ∃ v rest, s.agenda = .portWrite 0xEC v :: rest ∧ v.getLsbD 1 = true) ∧
    ((s.trap.intReq = true ∧ s'.trap.intReq = false) ∨
      (∃ k, s.trap.errPending.getLsbD k = true ∧ s'.trap.errPending.getLsbD k = false) →
        ∃ t w, s'.cur = some t ∧ s.cs.read (s.tpc.get t).toNat = some w ∧
          w.extractLsb' 16 4 = 10 ∧ w.extractLsb' 24 2 ≠ 2)

/-- No step is refused: every instruction has its meaning. -/
def Obligations.NoStepIsRefused : Prop :=
  ∀ (s : State) (r : Refusal), step s ≠ .refused r
end

