-- ==== Sys2Proof/Laws/Ops.lean ====
section
/-! SUPPORT. What each named operation can do, said once: registers, tasks, the control store, the instruction
buffer, traps, the stack pointer and the I/O channel. -/

namespace Sys2Proof.Machine

/-! ### Registers -/

@[simp] theorem read_write_same {w k : Nat} (f : RegFile w k) (i : BitVec k) (x : BitVec w) :
    (f.write i x).read i = x := by
  simp [RegFile.read, RegFile.write]

theorem read_write_other {w k : Nat} (f : RegFile w k) (i j : BitVec k) (x : BitVec w) (h : j ≠ i) :
    (f.write i x).read j = f.read j := by
  have hn : i.toNat ≠ j.toNat := fun e => h (BitVec.eq_of_toNat_eq e.symm)
  simp [RegFile.read, RegFile.write, hn]

@[simp] theorem peek_write_same {w k : Nat} (f : RegFile w k) (i : BitVec k) (x : BitVec w) :
    (f.write i x).peek i = some x := by
  simp [RegFile.peek, RegFile.write, Slot.peek]

theorem peek_write_other {w k : Nat} (f : RegFile w k) (i j : BitVec k) (x : BitVec w) (h : j ≠ i) :
    (f.write i x).peek j = f.peek j := by
  have hn : i.toNat ≠ j.toNat := fun e => h (BitVec.eq_of_toNat_eq e.symm)
  simp [RegFile.peek, RegFile.write, hn]

/-- A register that shows a value holds that value. -/
theorem read_of_peek {w k : Nat} {f : RegFile w k} {i : BitVec k} {x : BitVec w} (h : f.peek i = some x) :
    f.read i = x := by
  unfold RegFile.peek Slot.peek at h
  unfold RegFile.read
  split at h <;> simp_all

/-! ### Tasks -/

@[simp] theorem PerTask.get_all {α : Type} (x : α) (t : Task) : (PerTask.all x).get t = x := by
  cases t <;> rfl

@[simp] theorem PerTask.get_set_same {α : Type} (p : PerTask α) (t : Task) (x : α) : (p.set t x).get t = x := by
  cases t <;> rfl

theorem PerTask.get_set_other {α : Type} (p : PerTask α) (t k : Task) (x : α) (h : k ≠ t) :
    (p.set t x).get k = p.get k := by
  cases t <;> cases k <;> first | rfl | exact absurd rfl h

/-- A per-task value is what its eight readings are. -/
theorem PerTask.ext_get {α : Type} {p r : PerTask α} (h : ∀ t, p.get t = r.get t) : p = r := by
  have h0 := h .emulator
  have h1 := h .display
  have h2 := h .ethernet
  have h3 := h .refresh
  have h4 := h .disk
  have h5 := h .iop
  have h6 := h .iopcs
  have h7 := h .kernel
  cases p; cases r
  simp_all [PerTask.get]

/-! ### The parameters -/

/-- A total order on the tasks names every task. -/
theorem Params.mem_taskPriority {p : Params} (h : p.wf = true) (t : Task) : t ∈ p.taskPriority := by
  have hc : p.taskPriority.count t = 1 := by
    simp only [Params.wf, Task.inOrder, List.all_cons, List.all_nil, Bool.and_true, Bool.and_eq_true,
      decide_eq_true_eq] at h
    cases t <;> simp only [h]
  exact List.count_pos_iff.mp (by omega)

@[simp] theorem Config.defaults_wf : Config.defaults.wf = true := by decide

/-- What a selection answers: an awake task before which no task of the order is awake. -/
theorem selectTask_eq_some {prio : List Task} {w : PerTask Bool} {c : Channel} {t : Task} :
    selectTask prio w c = some t ↔
      awake w c t = true ∧ ∃ before after, prio = before ++ t :: after ∧ ∀ k ∈ before, awake w c k = false := by
  simp [selectTask, List.find?_eq_some_iff_append]

/-- A selection answers no task exactly when no task of the order is awake. -/
theorem selectTask_eq_none {prio : List Task} {w : PerTask Bool} {c : Channel} :
    selectTask prio w c = none ↔ ∀ k ∈ prio, awake w c k = false := by
  simp [selectTask, List.find?_eq_none]

/-- The arithmetic table is no part of LOGIC_CARRY (40 R189). -/
theorem tableOf_arith (lc : LogicCarry) :
    tableOf lc .add = arithTable ∧ tableOf lc .subr = arithTable ∧ tableOf lc .subs = arithTable :=
  ⟨rfl, rfl, rfl⟩

/-! ### The control store -/

@[simp] theorem Memory.read_write_same (m : Memory) (a : Nat) (w : ControlWord) :
    Memory.read (m.write a w) a = some w := by
  induction m with
  | nil => simp [Memory.write, Memory.read]
  | cons p rest ih =>
    obtain ⟨b, x⟩ := p
    unfold Memory.write
    split
    · simp [Memory.read]
    · split
      · simp [Memory.read]
      · simp_all [Memory.read]

theorem Memory.read_write_other (m : Memory) (a b : Nat) (w : ControlWord) (h : b ≠ a) :
    Memory.read (m.write a w) b = Memory.read m b := by
  induction m with
  | nil => simp [Memory.write, Memory.read, h]
  | cons p rest ih =>
    obtain ⟨c, x⟩ := p
    unfold Memory.write
    split
    · simp [Memory.read, h]
    · split
      · simp_all [Memory.read]
      · simp [Memory.read, ih]

/-- A write at or above the lower bound keeps the rising form. -/
theorem Memory.wfFrom_write (m : Memory) (lo a : Nat) (w : ControlWord) (hlo : lo ≤ a) (ha : a < 4096)
    (h : Memory.wfFrom lo m = true) : Memory.wfFrom lo (m.write a w) = true := by
  induction m generalizing lo with
  | nil => simp [Memory.write, Memory.wfFrom, hlo, ha]
  | cons p rest ih =>
    obtain ⟨b, x⟩ := p
    simp only [Memory.wfFrom, Bool.and_eq_true, decide_eq_true_eq] at h
    obtain ⟨⟨h1, h2⟩, h3⟩ := h
    unfold Memory.write
    split
    · rename_i hab
      simp only [Memory.wfFrom, Bool.and_eq_true, decide_eq_true_eq]
      exact ⟨⟨hlo, ha⟩, ⟨by omega, h2⟩, h3⟩
    · split
      · rename_i hab
        subst hab
        simp only [Memory.wfFrom, Bool.and_eq_true, decide_eq_true_eq]
        exact ⟨⟨h1, h2⟩, h3⟩
      · simp only [Memory.wfFrom, Bool.and_eq_true, decide_eq_true_eq]
        exact ⟨⟨h1, h2⟩, ih (b + 1) (by omega) h3⟩

/-- Every write to the control store keeps its canonical form. -/
theorem Memory.wf_write (m : Memory) (a : Nat) (w : ControlWord) (ha : a < 4096) (h : m.wf = true) :
    (m.write a w).wf = true :=
  Memory.wfFrom_write m 0 a w (Nat.zero_le a) ha h

/-- The control store after reset is in its canonical form. -/
theorem reset_cs_wf : State.reset.cs.wf = true := rfl

/-- Two entries of the rising form: nothing below the lower bound is listed. -/
theorem Memory.read_below (m : Memory) (lo a : Nat) (h : Memory.wfFrom lo m = true) (ha : a < lo) :
    Memory.read m a = none := by
  induction m generalizing lo with
  | nil => rfl
  | cons p rest ih =>
    obtain ⟨b, x⟩ := p
    simp only [Memory.wfFrom, Bool.and_eq_true, decide_eq_true_eq] at h
    have hne : a ≠ b := by omega
    simp only [Memory.read, hne, if_false]
    exact ih (b + 1) h.2 (by omega)

/-! ### The instruction buffer -/

/-- What an append can answer: a longer buffer, the same full buffer, or no buffer. -/
theorem ibAppend_eq (policy : IBOverflowPolicy) (q : List Byte) (b : Byte) :
    ibAppend policy q b =
      if q.length < 3 then some (q ++ [b]) else if policy = .discard then some q else none := by
  unfold ibAppend
  split
  · rfl
  · cases policy <;> rfl

theorem ibAppend_length {policy : IBOverflowPolicy} {q r : List Byte} {b : Byte}
    (h : ibAppend policy q b = some r) (hq : q.length ≤ 3) : r.length ≤ 3 := by
  rw [ibAppend_eq] at h
  split at h
  · simp only [Option.some.injEq] at h
    subst h
    simp
    omega
  · split at h
    · simp only [Option.some.injEq] at h
      subst h
      exact hq
    · exact absurd h (by simp)

/-! ### Traps -/

@[simp] theorem raiseTraps_errPending (k : BitVec 4) (r : TrapRegs) :
    (raiseTraps k r).errPending = r.errPending ||| k := rfl

@[simp] theorem raiseTraps_intReq (k : BitVec 4) (r : TrapRegs) :
    (raiseTraps k r).intReq = (r.intReq || decide (k ≠ 0)) := rfl

@[simp] theorem raiseTraps_zero (r : TrapRegs) : raiseTraps 0 r = r := by
  cases r
  simp [raiseTraps]

@[simp] theorem clearTraps_errPending : clearTraps.errPending = 0 := rfl

@[simp] theorem clearTraps_intReq : clearTraps.intReq = false := rfl

/-- The four codes of a trap set, by bit. -/
theorem trapSet_bits (p e k b : Bool) :
    (trapSet p e k b).getLsbD 0 = p ∧ (trapSet p e k b).getLsbD 1 = e ∧
      (trapSet p e k b).getLsbD 2 = k ∧ (trapSet p e k b).getLsbD 3 = b := by
  cases p <;> cases e <;> cases k <;> cases b <;> decide

/-- Raising traps keeps "a pending code requests an interrupt". -/
theorem raiseTraps_requests (k : BitVec 4) (r : TrapRegs) (h : r.errPending = 0 ∨ r.intReq = true) :
    (raiseTraps k r).errPending = 0 ∨ (raiseTraps k r).intReq = true := by
  by_cases hk : k = 0
  · subst hk
    simpa using h
  · exact .inr (by rw [raiseTraps_intReq, decide_eq_true hk, Bool.or_true])

/-! ### The stack pointer -/

@[simp] theorem stackNext_push (sp : BitVec 4) : stackNext .push sp = sp + 1 := rfl

@[simp] theorem stackNext_pop (sp : BitVec 4) : stackNext .pop sp = sp - 1 := rfl

@[simp] theorem stackNext_pop2 (sp : BitVec 4) : stackNext .pop2 sp = sp - 2 := rfl

@[simp] theorem stackNext_nop (sp : BitVec 4) : stackNext .nop sp = sp := rfl

@[simp] theorem stackNext_link (l : BitVec 3) (sp : BitVec 4) : stackNext (.link l) sp = sp := rfl

@[simp] theorem stackNext_io (f : IOFn) (sp : BitVec 4) : stackNext (.io f) sp = sp := rfl

/-! ### The I/O channel -/

@[simp] theorem ioApply_nop (y : Word) (c : Channel) : ioApply .nop y c = c := rfl

@[simp] theorem ioApply_iopToCp (f : IOFn) (y : Word) (c : Channel) : (ioApply f y c).iopToCp = c.iopToCp := by
  cases f <;> rfl

@[simp] theorem ioApply_iopReq (f : IOFn) (y : Word) (c : Channel) : (ioApply f y c).iopReq = c.iopReq := by
  cases f <;> rfl

@[simp] theorem ioApply_dmaMode (f : IOFn) (y : Word) (c : Channel) : (ioApply f y c).dmaMode = c.dmaMode := by
  cases f <;> rfl

end Sys2Proof.Machine
end

