-- ==== Sys2Proof/Laws/State.lean ====
section
/-! SUPPORT. One lemma for each field of each state update, true by definition, so that no later proof unfolds a record
update. -/

namespace Sys2Proof.Machine

/-! ### The commit of a click -/

@[simp] theorem commit_rf (m : Microword) (t : Task) (s : State) (ib : List Byte) :
    (commit m t s ib).rf = rfNext m t s := rfl

@[simp] theorem commit_q (m : Microword) (t : Task) (s : State) (ib : List Byte) :
    (commit m t s ib).q = qNext m t s := rfl

@[simp] theorem commit_flags (m : Microword) (t : Task) (s : State) (ib : List Byte) :
    (commit m t s ib).flags = outFlags m t s := rfl

@[simp] theorem commit_ylatch (m : Microword) (t : Task) (s : State) (ib : List Byte) :
    (commit m t s ib).ylatch = outY m t s := rfl

@[simp] theorem commit_rh (m : Microword) (t : Task) (s : State) (ib : List Byte) :
    (commit m t s ib).rh = rhNext m t s := rfl

@[simp] theorem commit_u (m : Microword) (t : Task) (s : State) (ib : List Byte) :
    (commit m t s ib).u = uNext m t s := rfl

@[simp] theorem commit_tpc (m : Microword) (t : Task) (s : State) (ib : List Byte) :
    (commit m t s ib).tpc = s.tpc.set t (nextAddr m t s) := rfl

@[simp] theorem commit_link (m : Microword) (t : Task) (s : State) (ib : List Byte) :
    (commit m t s ib).link = linkNext m t s := rfl

@[simp] theorem commit_wake (m : Microword) (t : Task) (s : State) (ib : List Byte) :
    (commit m t s ib).wake = wakeNext m t s := rfl

@[simp] theorem commit_cur (m : Microword) (t : Task) (s : State) (ib : List Byte) :
    (commit m t s ib).cur = s.cur := rfl

@[simp] theorem commit_phase (m : Microword) (t : Task) (s : State) (ib : List Byte) :
    (commit m t s ib).phase = phaseSucc s.phase := rfl

@[simp] theorem commit_stackP (m : Microword) (t : Task) (s : State) (ib : List Byte) :
    (commit m t s ib).stackP = stackNext m.xz.zFn s.stackP := rfl

@[simp] theorem commit_ib (m : Microword) (t : Task) (s : State) (ib : List Byte) : (commit m t s ib).ib = ib := rfl

@[simp] theorem commit_trap (m : Microword) (t : Task) (s : State) (ib : List Byte) :
    (commit m t s ib).trap = trapNext m t s := rfl

@[simp] theorem commit_pageCross (m : Microword) (t : Task) (s : State) (ib : List Byte) :
    (commit m t s ib).pageCross = crossNow m t s := rfl

@[simp] theorem commit_io (m : Microword) (t : Task) (s : State) (ib : List Byte) :
    (commit m t s ib).io = ioNext m t s := rfl

@[simp] theorem commit_cs (m : Microword) (t : Task) (s : State) (ib : List Byte) : (commit m t s ib).cs = s.cs := rfl

@[simp] theorem commit_csStage (m : Microword) (t : Task) (s : State) (ib : List Byte) :
    (commit m t s ib).csStage = s.csStage := rfl

@[simp] theorem commit_tpcSel (m : Microword) (t : Task) (s : State) (ib : List Byte) :
    (commit m t s ib).tpcSel = s.tpcSel := rfl

@[simp] theorem commit_tpcHi (m : Microword) (t : Task) (s : State) (ib : List Byte) :
    (commit m t s ib).tpcHi = s.tpcHi := rfl

@[simp] theorem commit_params (m : Microword) (t : Task) (s : State) (ib : List Byte) :
    (commit m t s ib).params = s.params := rfl

@[simp] theorem commit_inp (m : Microword) (t : Task) (s : State) (ib : List Byte) :
    (commit m t s ib).inp = s.inp := rfl

@[simp] theorem commit_agenda (m : Microword) (t : Task) (s : State) (ib : List Byte) :
    (commit m t s ib).agenda = s.agenda := rfl

@[simp] theorem commit_event (m : Microword) (t : Task) (s : State) (ib : List Byte) :
    (commit m t s ib).event = memEvent m t s := rfl

@[simp] theorem commit_reply (m : Microword) (t : Task) (s : State) (ib : List Byte) :
    (commit m t s ib).reply = s.reply := rfl

@[simp] theorem commit_draws (m : Microword) (t : Task) (s : State) (ib : List Byte) :
    (commit m t s ib).draws = s.draws + 1 := rfl

/-! ### The idle click -/

@[simp] theorem idleClick_rf (s : State) : (idleClick s).rf = s.rf := rfl

@[simp] theorem idleClick_q (s : State) : (idleClick s).q = s.q := rfl

@[simp] theorem idleClick_flags (s : State) : (idleClick s).flags = s.flags := rfl

@[simp] theorem idleClick_ylatch (s : State) : (idleClick s).ylatch = s.ylatch := rfl

@[simp] theorem idleClick_rh (s : State) : (idleClick s).rh = s.rh := rfl

@[simp] theorem idleClick_u (s : State) : (idleClick s).u = s.u := rfl

@[simp] theorem idleClick_tpc (s : State) : (idleClick s).tpc = s.tpc := rfl

@[simp] theorem idleClick_link (s : State) : (idleClick s).link = s.link := rfl

@[simp] theorem idleClick_wake (s : State) : (idleClick s).wake = s.wake := rfl

@[simp] theorem idleClick_cur (s : State) : (idleClick s).cur = none := rfl

@[simp] theorem idleClick_phase (s : State) : (idleClick s).phase = phaseSucc s.phase := rfl

@[simp] theorem idleClick_stackP (s : State) : (idleClick s).stackP = s.stackP := rfl

@[simp] theorem idleClick_ib (s : State) : (idleClick s).ib = s.ib := rfl

@[simp] theorem idleClick_trap (s : State) : (idleClick s).trap = s.trap := rfl

@[simp] theorem idleClick_pageCross (s : State) : (idleClick s).pageCross = false := rfl

@[simp] theorem idleClick_io (s : State) : (idleClick s).io = s.io := rfl

@[simp] theorem idleClick_cs (s : State) : (idleClick s).cs = s.cs := rfl

@[simp] theorem idleClick_csStage (s : State) : (idleClick s).csStage = s.csStage := rfl

@[simp] theorem idleClick_tpcSel (s : State) : (idleClick s).tpcSel = s.tpcSel := rfl

@[simp] theorem idleClick_tpcHi (s : State) : (idleClick s).tpcHi = s.tpcHi := rfl

@[simp] theorem idleClick_params (s : State) : (idleClick s).params = s.params := rfl

@[simp] theorem idleClick_inp (s : State) : (idleClick s).inp = s.inp := rfl

@[simp] theorem idleClick_agenda (s : State) : (idleClick s).agenda = s.agenda := rfl

@[simp] theorem idleClick_event (s : State) : (idleClick s).event = none := rfl

@[simp] theorem idleClick_reply (s : State) : (idleClick s).reply = s.reply := rfl

@[simp] theorem idleClick_draws (s : State) : (idleClick s).draws = s.draws + 1 := rfl

/-! ### The start of a click -/

@[simp] theorem beginClick_rf (i : Inputs) (s : State) : (beginClick i s).rf = s.rf := rfl

@[simp] theorem beginClick_q (i : Inputs) (s : State) : (beginClick i s).q = s.q := rfl

@[simp] theorem beginClick_flags (i : Inputs) (s : State) : (beginClick i s).flags = s.flags := rfl

@[simp] theorem beginClick_ylatch (i : Inputs) (s : State) : (beginClick i s).ylatch = s.ylatch := rfl

@[simp] theorem beginClick_rh (i : Inputs) (s : State) : (beginClick i s).rh = s.rh := rfl

@[simp] theorem beginClick_u (i : Inputs) (s : State) : (beginClick i s).u = s.u := rfl

@[simp] theorem beginClick_tpc (i : Inputs) (s : State) : (beginClick i s).tpc = s.tpc := rfl

@[simp] theorem beginClick_link (i : Inputs) (s : State) : (beginClick i s).link = s.link := rfl

@[simp] theorem beginClick_wake (i : Inputs) (s : State) : (beginClick i s).wake = sampleWakes i s.wake := rfl

@[simp] theorem beginClick_cur (i : Inputs) (s : State) :
    (beginClick i s).cur = selectTask s.params.taskPriority (sampleWakes i s.wake) s.io := rfl

@[simp] theorem beginClick_phase (i : Inputs) (s : State) : (beginClick i s).phase = s.phase := rfl

@[simp] theorem beginClick_stackP (i : Inputs) (s : State) : (beginClick i s).stackP = s.stackP := rfl

@[simp] theorem beginClick_ib (i : Inputs) (s : State) : (beginClick i s).ib = s.ib := rfl

@[simp] theorem beginClick_trap (i : Inputs) (s : State) : (beginClick i s).trap = s.trap := rfl

@[simp] theorem beginClick_pageCross (i : Inputs) (s : State) : (beginClick i s).pageCross = s.pageCross := rfl

@[simp] theorem beginClick_io (i : Inputs) (s : State) : (beginClick i s).io = s.io := rfl

@[simp] theorem beginClick_cs (i : Inputs) (s : State) : (beginClick i s).cs = s.cs := rfl

@[simp] theorem beginClick_csStage (i : Inputs) (s : State) : (beginClick i s).csStage = s.csStage := rfl

@[simp] theorem beginClick_tpcSel (i : Inputs) (s : State) : (beginClick i s).tpcSel = s.tpcSel := rfl

@[simp] theorem beginClick_tpcHi (i : Inputs) (s : State) : (beginClick i s).tpcHi = s.tpcHi := rfl

@[simp] theorem beginClick_params (i : Inputs) (s : State) : (beginClick i s).params = s.params := rfl

@[simp] theorem beginClick_inp (i : Inputs) (s : State) : (beginClick i s).inp = i := rfl

@[simp] theorem beginClick_agenda (i : Inputs) (s : State) : (beginClick i s).agenda = s.agenda := rfl

@[simp] theorem beginClick_event (i : Inputs) (s : State) : (beginClick i s).event = s.event := rfl

@[simp] theorem beginClick_reply (i : Inputs) (s : State) : (beginClick i s).reply = s.reply := rfl

@[simp] theorem beginClick_draws (i : Inputs) (s : State) : (beginClick i s).draws = s.draws := rfl

/-! ### The control port -/

@[simp] theorem writeControl_rf (v : Byte) (s : State) : (writeControl v s).rf = s.rf := rfl

@[simp] theorem writeControl_q (v : Byte) (s : State) : (writeControl v s).q = s.q := rfl

@[simp] theorem writeControl_flags (v : Byte) (s : State) : (writeControl v s).flags = s.flags := rfl

@[simp] theorem writeControl_ylatch (v : Byte) (s : State) : (writeControl v s).ylatch = s.ylatch := rfl

@[simp] theorem writeControl_rh (v : Byte) (s : State) : (writeControl v s).rh = s.rh := rfl

@[simp] theorem writeControl_u (v : Byte) (s : State) : (writeControl v s).u = s.u := rfl

@[simp] theorem writeControl_tpc (v : Byte) (s : State) : (writeControl v s).tpc = s.tpc := rfl

@[simp] theorem writeControl_link (v : Byte) (s : State) : (writeControl v s).link = s.link := rfl

@[simp] theorem writeControl_wake (v : Byte) (s : State) : (writeControl v s).wake = s.wake := rfl

@[simp] theorem writeControl_cur (v : Byte) (s : State) : (writeControl v s).cur = s.cur := rfl

@[simp] theorem writeControl_phase (v : Byte) (s : State) : (writeControl v s).phase = s.phase := rfl

@[simp] theorem writeControl_stackP (v : Byte) (s : State) : (writeControl v s).stackP = s.stackP := rfl

@[simp] theorem writeControl_ib (v : Byte) (s : State) : (writeControl v s).ib = s.ib := rfl

@[simp] theorem writeControl_trap (v : Byte) (s : State) :
    (writeControl v s).trap = { s.trap with intReq := s.trap.intReq || v.getLsbD 1 } := rfl

@[simp] theorem writeControl_pageCross (v : Byte) (s : State) : (writeControl v s).pageCross = s.pageCross := rfl

@[simp] theorem writeControl_io (v : Byte) (s : State) :
    (writeControl v s).io = { s.io with dmaMode := v.getLsbD 0 } := rfl

@[simp] theorem writeControl_cs (v : Byte) (s : State) : (writeControl v s).cs = s.cs := rfl

@[simp] theorem writeControl_csStage (v : Byte) (s : State) : (writeControl v s).csStage = s.csStage := rfl

@[simp] theorem writeControl_tpcSel (v : Byte) (s : State) : (writeControl v s).tpcSel = s.tpcSel := rfl

@[simp] theorem writeControl_tpcHi (v : Byte) (s : State) : (writeControl v s).tpcHi = s.tpcHi := rfl

@[simp] theorem writeControl_params (v : Byte) (s : State) : (writeControl v s).params = s.params := rfl

@[simp] theorem writeControl_inp (v : Byte) (s : State) : (writeControl v s).inp = s.inp := rfl

@[simp] theorem writeControl_agenda (v : Byte) (s : State) : (writeControl v s).agenda = s.agenda := rfl

@[simp] theorem writeControl_event (v : Byte) (s : State) : (writeControl v s).event = s.event := rfl

@[simp] theorem writeControl_reply (v : Byte) (s : State) : (writeControl v s).reply = s.reply := rfl

@[simp] theorem writeControl_draws (v : Byte) (s : State) : (writeControl v s).draws = s.draws := rfl

/-! ### The load that stands for a program -/

@[simp] theorem loadForNextStep_rf (w : ControlWord) (s : State) : (loadForNextStep w s).rf = s.rf := rfl

@[simp] theorem loadForNextStep_q (w : ControlWord) (s : State) : (loadForNextStep w s).q = s.q := rfl

@[simp] theorem loadForNextStep_flags (w : ControlWord) (s : State) : (loadForNextStep w s).flags = s.flags := rfl

@[simp] theorem loadForNextStep_ylatch (w : ControlWord) (s : State) : (loadForNextStep w s).ylatch = s.ylatch := rfl

@[simp] theorem loadForNextStep_rh (w : ControlWord) (s : State) : (loadForNextStep w s).rh = s.rh := rfl

@[simp] theorem loadForNextStep_u (w : ControlWord) (s : State) : (loadForNextStep w s).u = s.u := rfl

@[simp] theorem loadForNextStep_tpc (w : ControlWord) (s : State) : (loadForNextStep w s).tpc = s.tpc := rfl

@[simp] theorem loadForNextStep_link (w : ControlWord) (s : State) : (loadForNextStep w s).link = s.link := rfl

@[simp] theorem loadForNextStep_wake (w : ControlWord) (s : State) :
    (loadForNextStep w s).wake = s.wake.set .emulator true := rfl

@[simp] theorem loadForNextStep_cur (w : ControlWord) (s : State) : (loadForNextStep w s).cur = s.cur := rfl

@[simp] theorem loadForNextStep_phase (w : ControlWord) (s : State) : (loadForNextStep w s).phase = s.phase := rfl

@[simp] theorem loadForNextStep_stackP (w : ControlWord) (s : State) : (loadForNextStep w s).stackP = s.stackP := rfl

@[simp] theorem loadForNextStep_ib (w : ControlWord) (s : State) : (loadForNextStep w s).ib = s.ib := rfl

@[simp] theorem loadForNextStep_trap (w : ControlWord) (s : State) : (loadForNextStep w s).trap = s.trap := rfl

@[simp] theorem loadForNextStep_pageCross (w : ControlWord) (s : State) :
    (loadForNextStep w s).pageCross = s.pageCross := rfl

@[simp] theorem loadForNextStep_io (w : ControlWord) (s : State) : (loadForNextStep w s).io = s.io := rfl

@[simp] theorem loadForNextStep_cs (w : ControlWord) (s : State) :
    (loadForNextStep w s).cs = s.cs.write (s.tpc.get (nextTask s)).toNat w := rfl

@[simp] theorem loadForNextStep_csStage (w : ControlWord) (s : State) :
    (loadForNextStep w s).csStage = s.csStage := rfl

@[simp] theorem loadForNextStep_tpcSel (w : ControlWord) (s : State) : (loadForNextStep w s).tpcSel = s.tpcSel := rfl

@[simp] theorem loadForNextStep_tpcHi (w : ControlWord) (s : State) : (loadForNextStep w s).tpcHi = s.tpcHi := rfl

@[simp] theorem loadForNextStep_params (w : ControlWord) (s : State) :
    (loadForNextStep w s).params = s.params := rfl

@[simp] theorem loadForNextStep_inp (w : ControlWord) (s : State) : (loadForNextStep w s).inp = s.inp := rfl

@[simp] theorem loadForNextStep_agenda (w : ControlWord) (s : State) :
    (loadForNextStep w s).agenda = [.executeClick Inputs.zero] := rfl

@[simp] theorem loadForNextStep_event (w : ControlWord) (s : State) : (loadForNextStep w s).event = s.event := rfl

@[simp] theorem loadForNextStep_reply (w : ControlWord) (s : State) : (loadForNextStep w s).reply = s.reply := rfl

@[simp] theorem loadForNextStep_draws (w : ControlWord) (s : State) : (loadForNextStep w s).draws = s.draws := rfl

end Sys2Proof.Machine
end

