-- ==== Sys2Proof/Laws/Click.lean ====
section
/-! SUPPORT. What one click, one host operation and one step can do, said once: the inversion lemmas that later
proofs cite instead of unfolding the machine. -/

namespace Sys2Proof.Machine

/-- Every arm of `exec` runs the word that its term denotes. -/
theorem exec_body (i : Instr) (s : State) :
    exec i s = match i.body with
      | .word m => runWord m s
      | .invalid _ => runInvalid := by
  cases i <;> rfl

theorem exec_word {i : Instr} {m : Microword} (h : i.body = .word m) (s : State) : exec i s = runWord m s := by
  rw [exec_body, h]

theorem exec_invalid {i : Instr} {w : ControlWord} (h : i.body = .invalid w) (s : State) :
    exec i s = .fault .invalidControlWord := by
  rw [exec_body, h, runInvalid]

/-- Without a current task a word's click is the idle click. -/
theorem runWord_idle (m : Microword) {s : State} (h : s.cur = none) : runWord m s = .next (idleClick s) := by
  simp only [runWord, h]

/-- The word of the current task, when it reads the IB at most once and an append finds room. -/
theorem runWord_commit {m : Microword} {t : Task} {s : State} {ib : List Byte} (hc : s.cur = some t)
    (hd : m.doubleIBRead = false) (hi : ibNext m t s = some ib) : runWord m s = .next (commit m t s ib) := by
  simp only [runWord, hc, hd, hi]
  rfl

/-- What a word can answer next. -/
theorem runWord_next {m : Microword} {s s' : State} (h : runWord m s = .next s') :
    (s.cur = none ∧ s' = idleClick s) ∨
      ∃ t ib, s.cur = some t ∧ m.doubleIBRead = false ∧ ibNext m t s = some ib ∧ s' = commit m t s ib := by
  unfold runWord at h
  split at h
  · rename_i hc
    simp only [Host.Outcome.next.injEq] at h
    exact .inl ⟨hc, h.symm⟩
  · rename_i t hc
    split at h
    · exact absurd h (by simp)
    · rename_i hd
      split at h
      · exact absurd h (by simp)
      · rename_i ib hi
        simp only [Host.Outcome.next.injEq] at h
        exact .inr ⟨t, ib, hc, by simpa using hd, hi, h.symm⟩

/-- What an instruction can answer next. -/
theorem exec_next {i : Instr} {s s' : State} (h : exec i s = .next s') :
    ∃ m, i.body = .word m ∧ ((s.cur = none ∧ s' = idleClick s) ∨
      ∃ t ib, s.cur = some t ∧ m.doubleIBRead = false ∧ ibNext m t s = some ib ∧ s' = commit m t s ib) := by
  rw [exec_body] at h
  split at h
  · rename_i m hb
    exact ⟨m, hb, runWord_next h⟩
  · exact absurd h (by simp [runInvalid])

/-- The IB after a word: the consumption, then the append. -/
theorem ibNext_eq (m : Microword) (t : Task) (s : State) :
    ibNext m t s =
      if m.ibLoad then
        ibAppend s.params.ibOverflow (if consumesIB m t s then s.ib.tail else s.ib) (lowByte (outY m t s))
      else some (if consumesIB m t s then s.ib.tail else s.ib) := rfl

/-- A word that appends nothing always leaves an IB. -/
theorem ibNext_noLoad {m : Microword} (t : Task) (s : State) (h : m.ibLoad = false) :
    ibNext m t s = some (if consumesIB m t s then s.ib.tail else s.ib) := by
  rw [ibNext_eq, h]
  rfl

/-- The IB stays within its three bytes. -/
theorem ibNext_length {m : Microword} {t : Task} {s : State} {ib : List Byte} (h : ibNext m t s = some ib)
    (hs : s.ib.length ≤ 3) : ib.length ≤ 3 := by
  have hr : (if consumesIB m t s then s.ib.tail else s.ib).length ≤ 3 := by
    split
    · simp
      omega
    · exact hs
  rw [ibNext_eq] at h
  split at h
  · exact ibAppend_length h hr
  · simp only [Option.some.injEq] at h
    exact h ▸ hr

/-! ### Host operations and the step -/

/-- A click with no task awake. -/
theorem executeClick_idle {inp : Inputs} {s : State} (h : (beginClick inp s).cur = none) :
    executeClick inp s = .next (idleClick (beginClick inp s)) := by
  unfold executeClick
  simp only [h]

/-- A click that fetched a word runs the instruction it decodes to. -/
theorem executeClick_fetched {inp : Inputs} {s : State} {t : Task} {w : ControlWord}
    (hc : (beginClick inp s).cur = some t) (hw : fetchWord t (beginClick inp s) = some w) :
    executeClick inp s = exec (decode s.phase w) (beginClick inp s) := by
  unfold executeClick
  simp only [hc, hw, beginClick_phase]

/-- A click that fetched no word. -/
theorem executeClick_unloaded {inp : Inputs} {s : State} {t : Task}
    (hc : (beginClick inp s).cur = some t) (hw : fetchWord t (beginClick inp s) = none) :
    executeClick inp s = .fault .csUnloaded := by
  unfold executeClick
  simp only [hc, hw]

/-- What a click can answer next: the idle click, or the commit of a word. -/
theorem executeClick_next {inp : Inputs} {s s' : State} (h : executeClick inp s = .next s') :
    s' = idleClick (beginClick inp s) ∨
      ∃ m t ib, (beginClick inp s).cur = some t ∧ m.doubleIBRead = false ∧
        ibNext m t (beginClick inp s) = some ib ∧ s' = commit m t (beginClick inp s) ib := by
  cases hc : (beginClick inp s).cur with
  | none =>
    rw [executeClick_idle hc, Host.Outcome.next.injEq] at h
    exact .inl h.symm
  | some t =>
    cases hw : fetchWord t (beginClick inp s) with
    | none => rw [executeClick_unloaded hc hw] at h; exact absurd h (by simp)
    | some w =>
      rw [executeClick_fetched hc hw] at h
      obtain ⟨m, -, ⟨hn, -⟩ | ⟨k, ib, hk, hd, hi, he⟩⟩ := exec_next h
      · exact absurd (hc.symm.trans hn) (by simp)
      · obtain rfl : k = t := Option.some.inj (hk.symm.trans hc)
        exact .inr ⟨m, k, ib, rfl, hd, hi, he⟩

theorem writeCS_next {a w : Nat} {s s' : State} (h : writeCS a w s = .next s') :
    a < 4096 ∧ w < 2 ^ 48 ∧ s' = { s with cs := s.cs.write a (BitVec.ofNat 48 w) } := by
  unfold writeCS at h
  split at h
  · rename_i hr
    simp only [Host.Outcome.next.injEq] at h
    exact ⟨hr.1, hr.2, h.symm⟩
  · exact absurd h (by simp)

theorem setWake_next {t : Nat} {b : Bool} {s s' : State} (h : setWake t b s = .next s') :
    ∃ k, storedWakeTask t = some k ∧ s' = { s with wake := s.wake.set k b } := by
  unfold setWake at h
  split at h
  · rename_i k hk
    simp only [Host.Outcome.next.injEq] at h
    exact ⟨k, hk, h.symm⟩
  · exact absurd h (by simp)

/-- What a port read can do: the byte goes to `reply`, and port 0xEB clears the acknowledge flag. -/
theorem portRead_next {p : Byte} {s s' : State} (h : portRead p s = .next s') :
    ∃ b, s' = { s with reply := some b } ∨
      (p = 0xEB#8 ∧ s' = { s with reply := some b, io := { s.io with cpAck := false } }) := by
  unfold portRead at h
  split at h
  · unfold readSlot at h
    split at h
    · simp only [Host.Outcome.next.injEq] at h
      exact ⟨_, .inl h.symm⟩
    · exact absurd h (by simp)
  · split at h
    · simp only [Host.Outcome.next.injEq] at h
      exact ⟨_, .inr ⟨rfl, h.symm⟩⟩
    all_goals first
      | (simp only [Host.Outcome.next.injEq] at h; exact ⟨_, .inl h.symm⟩)
      | exact absurd h (by simp)

/-- What a port write can do, address by address. -/
theorem portWrite_next {p v : Byte} {s s' : State} (h : portWrite p v s = .next s') :
    (∃ k, slotOfPort p = some k ∧ s' = writeSlot k v s) ∨
      s' = { s with io := { s.io with iopToCp := v, iopReq := true } } ∨
      s' = writeControl v s ∨
      s' = { s with io := { s.io with dmaComplete := false } } ∨
      s' = { s with tpcSel := v.extractLsb' 4 3, tpcHi := v.extractLsb' 0 4 } ∨
      s' = { s with tpc := s.tpc.set (tpcSelTask s) (s.tpcHi ++ v) } := by
  unfold portWrite at h
  split at h
  · rename_i k hk
    simp only [Host.Outcome.next.injEq] at h
    exact .inl ⟨k, hk, h.symm⟩
  · split at h <;> simp only [Host.Outcome.next.injEq, reduceCtorEq] at h <;> simp [← h]

/-- What a slot write can do to the control store. -/
theorem writeSlot_cs (k : Fin 6) (v : Byte) (s : State) :
    (writeSlot k v s).cs = s.cs ∨ ∃ w, (writeSlot k v s).cs = s.cs.write (csPortAddr s) w := by
  unfold writeSlot
  split
  · exact .inr ⟨_, rfl⟩
  · exact .inl rfl

@[simp] theorem writeSlot_ib (k : Fin 6) (v : Byte) (s : State) : (writeSlot k v s).ib = s.ib := by
  unfold writeSlot
  split <;> rfl

@[simp] theorem writeSlot_trap (k : Fin 6) (v : Byte) (s : State) : (writeSlot k v s).trap = s.trap := by
  unfold writeSlot
  split <;> rfl

@[simp] theorem writeSlot_params (k : Fin 6) (v : Byte) (s : State) : (writeSlot k v s).params = s.params := by
  unfold writeSlot
  split <;> rfl

/-- The port address of a control-store write lies in the store. -/
theorem csPortAddr_lt (s : State) : csPortAddr s < 4096 := (s.tpc.get .iopcs).isLt

/-- The click after a load runs the task at whose TPC the word stands, when TASK_PRIORITY names task 0. -/
theorem beginClick_load {w : ControlWord} {s : State} (h : Task.emulator ∈ s.params.taskPriority) :
    (beginClick Inputs.zero { loadForNextStep w s with agenda := [] }).cur = some (nextTask s) := by
  have hs : selectTask s.params.taskPriority (sampleWakes Inputs.zero (s.wake.set .emulator true)) s.io ≠ none := by
    rw [Ne, selectTask_eq_none]
    intro hn
    exact absurd (hn _ h) (by simp [awake, sampleWakes, PerTask.set, PerTask.get])
  obtain ⟨t, ht⟩ := Option.ne_none_iff_exists'.mp hs
  simp [nextTask, ht]

theorem step_click {s : State} (h : s.agenda = []) : step s = executeClick (Config.freeInputs s.draws) s := by
  unfold step nextOperation
  simp only [h]

theorem step_op {s : State} {op : HostOp} {rest : List HostOp} (h : s.agenda = op :: rest) :
    step s = performHostOp op { s with agenda := rest } := by
  unfold step nextOperation
  simp only [h]

/-- A step is one host operation on the state with the agenda moved on, or a click. -/
theorem step_cases (s : State) :
    (s.agenda = [] ∧ step s = executeClick (Config.freeInputs s.draws) s) ∨
      ∃ op rest, s.agenda = op :: rest ∧ step s = performHostOp op { s with agenda := rest } := by
  cases h : s.agenda with
  | nil => exact .inl ⟨rfl, step_click h⟩
  | cons op rest => exact .inr ⟨op, rest, rfl, step_op h⟩

end Sys2Proof.Machine
end

