-- ==== Sys2Proof/Laws/Decode.lean ====
section
/-! SUPPORT. The code tables read back what they wrote, and the field layout of `Microword.encode`: where each
field of the word lies (30 R111). -/

namespace Sys2Proof

/-! ### The code tables -/

@[simp] theorem SrcPair.ofCode_code (p : SrcPair) : SrcPair.ofCode p.code = p := by cases p <;> rfl

@[simp] theorem AluFn.ofCode_code (f : AluFn) : AluFn.ofCode f.code = f := by cases f <;> rfl

@[simp] theorem DestCtl.ofCode_code (c : DestCtl) : DestCtl.ofCode c.code = c := by cases c <;> rfl

@[simp] theorem YField.ofCode_code (y : YField) : YField.ofCode y.sel y.code = some y := by
  cases y with
  | fy f => cases f <;> rfl
  | bd f => cases f <;> rfl
  | io f => cases f <;> rfl

@[simp] theorem FXFn.ofCode_code (x : FXFn) : FXFn.ofCode x.code = some x := by cases x <;> rfl

@[simp] theorem IOFn.ofCode_code (f : IOFn) : IOFn.ofCode f.code = some f := by cases f <;> rfl

theorem ZField.ofNormalCode_code (z : ZField) (h : z.sel = 0#2) : ZField.ofNormalCode z.code = some z := by
  cases z with
  | link low => revert low; decide
  | io f => exact absurd h (by simp [ZField.sel])
  | _ => rfl

@[simp] theorem XZField.ofCode_code (xz : XZField) : XZField.ofCode xz.sel xz.fX xz.fZ = some xz := by
  cases xz with
  | lit b => revert b; decide
  | fn x z =>
    cases z with
    | io f => simp [XZField.ofCode, XZField.sel, ZField.sel, XZField.fX, XZField.fZ, ZField.code]
    | link low =>
      have h := ZField.ofNormalCode_code (.link low) rfl
      simp only [XZField.ofCode, XZField.sel, ZField.sel, XZField.fX, XZField.fZ, FXFn.ofCode_code, h]
    | _ => cases x <;> rfl

/-- The two forms of the combination rule of 30 R133 agree. -/
theorem doubleIBRead_eq_not_oneIBRead (m : Microword) : m.doubleIBRead = !m.oneIBRead := by
  obtain ⟨rA, rB, aS, aF, aD, ep, cin, enSU, mem, y, xz, inia⟩ := m
  cases xz with
  | lit b =>
    simp [Microword.doubleIBRead, Microword.readsIBFront, Microword.oneIBRead, XZField.xFn, XZField.x?]
  | fn x z => cases x <;> (cases y with | bd f => cases f <;> rfl | fy f => rfl | io f => rfl)

/-! ### Where the fields lie -/

/-- A field above the last piece of a concatenation. -/
theorem extract_above {v w : Nat} (x : BitVec v) (y : BitVec w) {k l : Nat} (h : w ≤ k) :
    (x ++ y).extractLsb' k l = x.extractLsb' (k - w) l :=
  BitVec.extractLsb'_append_eq_of_le h

/-- The field that is the last piece of a concatenation. -/
theorem extract_last {v w : Nat} (x : BitVec v) (y : BitVec w) : (x ++ y).extractLsb' 0 w = y :=
  (BitVec.extractLsb'_append_eq_of_add_le (by omega)).trans BitVec.extractLsb'_eq_self

/-- A bit above the last piece of a concatenation. -/
theorem bit_above {v w : Nat} (x : BitVec v) (y : BitVec w) {k : Nat} (h : w ≤ k) :
    (x ++ y).getLsbD k = x.getLsbD (k - w) := by
  rw [BitVec.getLsbD_append, if_neg (by omega)]

/-- A one-bit piece at the end of a concatenation. -/
theorem bit_last {v : Nat} (x : BitVec v) (b : Bool) : (x ++ BitVec.ofBool b).getLsbD 0 = b := by
  rw [BitVec.getLsbD_append, if_pos (by omega)]
  cases b <;> rfl

theorem encode_rA (m : Microword) : m.encode.extractLsb' 44 4 = m.rA := by
  unfold Microword.encode
  iterate 14 refine (extract_above _ _ (by decide)).trans ?_
  exact BitVec.extractLsb'_eq_self

theorem encode_rB (m : Microword) : m.encode.extractLsb' 40 4 = m.rB := by
  unfold Microword.encode
  iterate 13 refine (extract_above _ _ (by decide)).trans ?_
  exact extract_last _ _

theorem encode_aS (m : Microword) : m.encode.extractLsb' 37 3 = m.aS.code := by
  unfold Microword.encode
  iterate 12 refine (extract_above _ _ (by decide)).trans ?_
  exact extract_last _ _

theorem encode_aF (m : Microword) : m.encode.extractLsb' 34 3 = m.aF.code := by
  unfold Microword.encode
  iterate 11 refine (extract_above _ _ (by decide)).trans ?_
  exact extract_last _ _

theorem encode_aD (m : Microword) : m.encode.extractLsb' 32 2 = m.aD.code := by
  unfold Microword.encode
  iterate 10 refine (extract_above _ _ (by decide)).trans ?_
  exact extract_last _ _

theorem encode_ep (m : Microword) : m.encode.getLsbD 31 = m.ep := by
  unfold Microword.encode
  iterate 9 refine (bit_above _ _ (by decide)).trans ?_
  exact bit_last _ _

theorem encode_cin (m : Microword) : m.encode.getLsbD 30 = m.cin := by
  unfold Microword.encode
  iterate 8 refine (bit_above _ _ (by decide)).trans ?_
  exact bit_last _ _

theorem encode_enSU (m : Microword) : m.encode.getLsbD 29 = m.enSU := by
  unfold Microword.encode
  iterate 7 refine (bit_above _ _ (by decide)).trans ?_
  exact bit_last _ _

theorem encode_mem (m : Microword) : m.encode.getLsbD 28 = m.mem := by
  unfold Microword.encode
  iterate 6 refine (bit_above _ _ (by decide)).trans ?_
  exact bit_last _ _

theorem encode_fSY (m : Microword) : m.encode.extractLsb' 26 2 = m.y.sel := by
  unfold Microword.encode
  iterate 5 refine (extract_above _ _ (by decide)).trans ?_
  exact extract_last _ _

theorem encode_fSZ (m : Microword) : m.encode.extractLsb' 24 2 = m.xz.sel := by
  unfold Microword.encode
  iterate 4 refine (extract_above _ _ (by decide)).trans ?_
  exact extract_last _ _

theorem encode_fY (m : Microword) : m.encode.extractLsb' 20 4 = m.y.code := by
  unfold Microword.encode
  iterate 3 refine (extract_above _ _ (by decide)).trans ?_
  exact extract_last _ _

theorem encode_fX (m : Microword) : m.encode.extractLsb' 16 4 = m.xz.fX := by
  unfold Microword.encode
  iterate 2 refine (extract_above _ _ (by decide)).trans ?_
  exact extract_last _ _

theorem encode_fZ (m : Microword) : m.encode.extractLsb' 12 4 = m.xz.fZ := by
  unfold Microword.encode
  iterate 1 refine (extract_above _ _ (by decide)).trans ?_
  exact extract_last _ _

theorem encode_inia (m : Microword) : m.encode.extractLsb' 0 12 = m.inia := by
  unfold Microword.encode
  exact extract_last _ _

/-! ### A row's word that has the row's code already -/

theorem asSrc_self {p : SrcPair} {o : Microword} (h : o.aS = p) : o.asSrc p = o := by subst h; rfl

theorem asAlu_self {f : AluFn} {o : Microword} (h : o.aF = f) : o.asAlu f = o := by subst h; rfl

theorem asDestQ_self {c : DestCtl} {o : Microword} (h : o.aD = c) (hq : o.y.isQ = true) : o.asDestQ c = o := by
  obtain ⟨rA, rB, aS, aF, aD, ep, cin, enSU, mem, y, xz, inia⟩ := o
  cases h
  cases y with
  | fy f => cases f <;> first | rfl | exact absurd hq (by simp [YField.isQ])
  | bd f => exact absurd hq (by simp [YField.isQ])
  | io f => exact absurd hq (by simp [YField.isQ])

theorem asDest_self {c : DestCtl} {o : Microword} (h : o.aD = c) (hq : o.y.isQ = false) : o.asDest c = o := by
  obtain ⟨rA, rB, aS, aF, aD, ep, cin, enSU, mem, y, xz, inia⟩ := o
  cases h
  cases y with
  | fy f => cases f <;> first | rfl | exact absurd hq (by simp [YField.isQ])
  | bd f => rfl
  | io f => rfl

theorem asCycle_self {o : Microword} (h : o.y.isCycle = true) : o.asCycle = o := by
  obtain ⟨rA, rB, aS, aF, aD, ep, cin, enSU, mem, y, xz, inia⟩ := o
  cases y with
  | fy f => cases f <;> first | rfl | exact absurd h (by simp [YField.isCycle])
  | bd f => exact absurd h (by simp [YField.isCycle])
  | io f => exact absurd h (by simp [YField.isCycle])

theorem asEnSU_self {o : Microword} (h : o.enSU = true) : o.asEnSU = o := by
  obtain ⟨rA, rB, aS, aF, aD, ep, cin, enSU, mem, y, xz, inia⟩ := o
  cases h
  rfl

theorem asMem_self {o : Microword} (h : o.mem = true) : o.asMem = o := by
  obtain ⟨rA, rB, aS, aF, aD, ep, cin, enSU, mem, y, xz, inia⟩ := o
  cases h
  rfl

theorem asFY_self {f : FYFn} {o : Microword} (h : o.y = .fy f) : o.asFY f = o := by
  obtain ⟨rA, rB, aS, aF, aD, ep, cin, enSU, mem, y, xz, inia⟩ := o
  cases h
  rfl

theorem asBD_self {f : BDFn} {o : Microword} (h : o.y = .bd f) : o.asBD f = o := by
  obtain ⟨rA, rB, aS, aF, aD, ep, cin, enSU, mem, y, xz, inia⟩ := o
  cases h
  rfl

theorem asIOY_self {f : IOFn} {o : Microword} (h : o.y = .io f) : o.asIOY f = o := by
  obtain ⟨rA, rB, aS, aF, aD, ep, cin, enSU, mem, y, xz, inia⟩ := o
  cases h
  rfl

theorem asFX_self {f : FXFn} {o : Microword} (h : o.xz.x? = some f) : o.asFX f = o := by
  obtain ⟨rA, rB, aS, aF, aD, ep, cin, enSU, mem, y, xz, inia⟩ := o
  cases xz with
  | fn x z => cases h; rfl
  | lit b => exact absurd h (by simp [XZField.x?])

theorem asZ_self {z : ZField} {o : Microword} (h : o.xz.z? = some z) : o.asZ z = o := by
  obtain ⟨rA, rB, aS, aF, aD, ep, cin, enSU, mem, y, xz, inia⟩ := o
  cases xz with
  | fn x z => cases h; rfl
  | lit b => exact absurd h (by simp [XZField.z?])

theorem asLink_self {o : Microword} (h : o.xz.isLink = true) : o.asLink = o := by
  obtain ⟨rA, rB, aS, aF, aD, ep, cin, enSU, mem, y, xz, inia⟩ := o
  cases xz with
  | fn x z => cases z <;> first | rfl | exact absurd h (by simp [XZField.isLink])
  | lit b => exact absurd h (by simp [XZField.isLink])

theorem asLit_self {o : Microword} (h : o.xz.isLit = true) : o.asLit = o := by
  obtain ⟨rA, rB, aS, aF, aD, ep, cin, enSU, mem, y, xz, inia⟩ := o
  cases xz with
  | fn x z => exact absurd h (by simp [XZField.isLit])
  | lit b => rfl

/-- A word that has a row's bits is not changed by writing them. -/
theorem withRowBits_self {mask val w : ControlWord} (h : rowBits mask val w = true) :
    withRowBits mask val w = w := by
  have hv : w &&& mask = val := by simpa [rowBits] using h
  subst hv
  unfold withRowBits
  apply BitVec.eq_of_getLsbD_eq
  intro i hi
  simp only [BitVec.getLsbD_or, BitVec.getLsbD_and, BitVec.getLsbD_not]
  cases w.getLsbD i <;> cases mask.getLsbD i <;> simp [hi]

end Sys2Proof
end

