-- ==== Sys2Proof/Laws/PerInstr.lean ====
section
/-! SUPPORT. One law for every instruction, constructor by constructor: a well-formed term denotes the very word it
carries, and a valid word it carries reads the IB at most once (30 R133). -/

namespace Sys2Proof.Laws.CarriesItsWord

/-- The word or the 48 bits that a term carries. -/
def carried : Instr → Body
  | .microword o => .word o
  | .srcAQ o => .word o
  | .srcAB o => .word o
  | .srcZQ o => .word o
  | .srcZB o => .word o
  | .srcZA o => .word o
  | .srcDA o => .word o
  | .srcDQ o => .word o
  | .srcDZ o => .word o
  | .aluADD o => .word o
  | .aluSUBR o => .word o
  | .aluSUBS o => .word o
  | .aluOR o => .word o
  | .aluAND o => .word o
  | .aluNOTRS o => .word o
  | .aluEXOR o => .word o
  | .aluEXNOR o => .word o
  | .destQREG o => .word o
  | .destNOP o => .word o
  | .destRAMA o => .word o
  | .destRAMF o => .word o
  | .destRAMQD o => .word o
  | .destRAMD o => .word o
  | .destRAMQU o => .word o
  | .destRAMU o => .word o
  | .cycleShift o => .word o
  | .enSU o => .word o
  | .memLatch o => .word o
  | .memWrite o => .word o
  | .memRead o => .word o
  | .fyNOP o => .word o
  | .fyQOp o => .word o
  | .fyCycle o => .word o
  | .fyQCycle o => .word o
  | .fyBlock o => .word o
  | .fyMap o => .word o
  | .fyReserved6 w => .invalid w
  | .fyReserved7 w => .invalid w
  | .fyReserved8 w => .invalid w
  | .fyReserved9 w => .invalid w
  | .fyReserved10 w => .invalid w
  | .fyReserved11 w => .invalid w
  | .fyReserved12 w => .invalid w
  | .fyReserved13 w => .invalid w
  | .fyReserved14 w => .invalid w
  | .fyReserved15 w => .invalid w
  | .bdNegBr o => .word o
  | .bdZeroBr o => .word o
  | .bdNZeroBr o => .word o
  | .bdIntBr o => .word o
  | .bdPgCarryBr o => .word o
  | .bdCarryBr o => .word o
  | .bdXRefBr o => .word o
  | .bdNibCarryBr o => .word o
  | .bdYDisp o => .word o
  | .bdYIODisp o => .word o
  | .bdIBDisp o => .word o
  | .bdAlwaysIBDisp o => .word o
  | .bdIBPtrDisp o => .word o
  | .bdReserved13 w => .invalid w
  | .bdReserved14 w => .invalid w
  | .bdReserved15 w => .invalid w
  | .ioYNOP o => .word o
  | .ioYIOPOData o => .word o
  | .ioYIOPCtl o => .word o
  | .ioYDMADone o => .word o
  | .ioYReserved4 w => .invalid w
  | .ioYReserved5 w => .invalid w
  | .ioYReserved6 w => .invalid w
  | .ioYReserved7 w => .invalid w
  | .ioYReserved8 w => .invalid w
  | .ioYReserved9 w => .invalid w
  | .ioYReserved10 w => .invalid w
  | .ioYReserved11 w => .invalid w
  | .ioYReserved12 w => .invalid w
  | .ioYReserved13 w => .invalid w
  | .ioYReserved14 w => .invalid w
  | .ioYReserved15 w => .invalid w
  | .fsyReserved3 w => .invalid w
  | .fxNOP o => .word o
  | .fxBusU o => .word o
  | .fxBusRH o => .word o
  | .fxBusIB o => .word o
  | .fxBusIBNA o => .word o
  | .fxBusIOP o => .word o
  | .fxBusLink o => .word o
  | .fxBusErr o => .word o
  | .fxRHWrite o => .word o
  | .fxIBLoad o => .word o
  | .fxClrIntErr o => .word o
  | .fxReserved11 w => .invalid w
  | .fxReserved12 w => .invalid w
  | .fxReserved13 w => .invalid w
  | .fxReserved14 w => .invalid w
  | .fxReserved15 w => .invalid w
  | .fzLink o => .word o
  | .fzNOP o => .word o
  | .fzPush o => .word o
  | .fzPop o => .word o
  | .fzPop2 o => .word o
  | .fzReserved12 w => .invalid w
  | .fzReserved13 w => .invalid w
  | .fzReserved14 w => .invalid w
  | .fzReserved15 w => .invalid w
  | .ioZNOP o => .word o
  | .ioZIOPOData o => .word o
  | .ioZIOPCtl o => .word o
  | .ioZDMADone o => .word o
  | .ioZReserved4 w => .invalid w
  | .ioZReserved5 w => .invalid w
  | .ioZReserved6 w => .invalid w
  | .ioZReserved7 w => .invalid w
  | .ioZReserved8 w => .invalid w
  | .ioZReserved9 w => .invalid w
  | .ioZReserved10 w => .invalid w
  | .ioZReserved11 w => .invalid w
  | .ioZReserved12 w => .invalid w
  | .ioZReserved13 w => .invalid w
  | .ioZReserved14 w => .invalid w
  | .ioZReserved15 w => .invalid w
  | .lit o => .word o
  | .fszReserved3 w => .invalid w
  | .invalidBusIBIBDisp w => .invalid w
  | .invalidBusIBAlwaysIBDisp w => .invalid w
  | .invalidBusIBNAIBDisp w => .invalid w
  | .invalidBusIBNAAlwaysIBDisp w => .invalid w

/-- A well-formed term denotes the word it carries. -/
def Statement (i : Instr) : Prop :=
  i.wf = true → i.body = carried i ∧ ∀ o, carried i = .word o → o.oneIBRead = true

/-- A valid term whose row leaves its word as it is. -/
theorem of_self {o m : Microword} (h : m = o) (hr : o.oneIBRead = true) :
    Body.word m = .word o ∧ ∀ k, Body.word o = .word k → k.oneIBRead = true :=
  ⟨congrArg _ h, fun _ hk => Body.word.inj hk ▸ hr⟩

/-- A reserved term whose bits have the row's. -/
theorem of_rowBits {mask val w : ControlWord} (h : rowBits mask val w = true) :
    Body.invalid (withRowBits mask val w) = .invalid w ∧ ∀ k, Body.invalid w = .word k → k.oneIBRead = true :=
  ⟨congrArg _ (withRowBits_self h), fun _ hk => Body.noConfusion hk⟩

theorem microword (o : Microword) : Statement (.microword o) :=
  fun h => of_self rfl h

theorem srcAQ (o : Microword) : Statement (.srcAQ o) :=
  fun h => of_self (asSrc_self (of_decide_eq_true (Bool.and_eq_true_iff.mp h).1)) (Bool.and_eq_true_iff.mp h).2

theorem srcAB (o : Microword) : Statement (.srcAB o) :=
  fun h => of_self (asSrc_self (of_decide_eq_true (Bool.and_eq_true_iff.mp h).1)) (Bool.and_eq_true_iff.mp h).2

theorem srcZQ (o : Microword) : Statement (.srcZQ o) :=
  fun h => of_self (asSrc_self (of_decide_eq_true (Bool.and_eq_true_iff.mp h).1)) (Bool.and_eq_true_iff.mp h).2

theorem srcZB (o : Microword) : Statement (.srcZB o) :=
  fun h => of_self (asSrc_self (of_decide_eq_true (Bool.and_eq_true_iff.mp h).1)) (Bool.and_eq_true_iff.mp h).2

theorem srcZA (o : Microword) : Statement (.srcZA o) :=
  fun h => of_self (asSrc_self (of_decide_eq_true (Bool.and_eq_true_iff.mp h).1)) (Bool.and_eq_true_iff.mp h).2

theorem srcDA (o : Microword) : Statement (.srcDA o) :=
  fun h => of_self (asSrc_self (of_decide_eq_true (Bool.and_eq_true_iff.mp h).1)) (Bool.and_eq_true_iff.mp h).2

theorem srcDQ (o : Microword) : Statement (.srcDQ o) :=
  fun h => of_self (asSrc_self (of_decide_eq_true (Bool.and_eq_true_iff.mp h).1)) (Bool.and_eq_true_iff.mp h).2

theorem srcDZ (o : Microword) : Statement (.srcDZ o) :=
  fun h => of_self (asSrc_self (of_decide_eq_true (Bool.and_eq_true_iff.mp h).1)) (Bool.and_eq_true_iff.mp h).2

theorem aluADD (o : Microword) : Statement (.aluADD o) :=
  fun h => of_self (asAlu_self (of_decide_eq_true (Bool.and_eq_true_iff.mp h).1)) (Bool.and_eq_true_iff.mp h).2

theorem aluSUBR (o : Microword) : Statement (.aluSUBR o) :=
  fun h => of_self (asAlu_self (of_decide_eq_true (Bool.and_eq_true_iff.mp h).1)) (Bool.and_eq_true_iff.mp h).2

theorem aluSUBS (o : Microword) : Statement (.aluSUBS o) :=
  fun h => of_self (asAlu_self (of_decide_eq_true (Bool.and_eq_true_iff.mp h).1)) (Bool.and_eq_true_iff.mp h).2

theorem aluOR (o : Microword) : Statement (.aluOR o) :=
  fun h => of_self (asAlu_self (of_decide_eq_true (Bool.and_eq_true_iff.mp h).1)) (Bool.and_eq_true_iff.mp h).2

theorem aluAND (o : Microword) : Statement (.aluAND o) :=
  fun h => of_self (asAlu_self (of_decide_eq_true (Bool.and_eq_true_iff.mp h).1)) (Bool.and_eq_true_iff.mp h).2

theorem aluNOTRS (o : Microword) : Statement (.aluNOTRS o) :=
  fun h => of_self (asAlu_self (of_decide_eq_true (Bool.and_eq_true_iff.mp h).1)) (Bool.and_eq_true_iff.mp h).2

theorem aluEXOR (o : Microword) : Statement (.aluEXOR o) :=
  fun h => of_self (asAlu_self (of_decide_eq_true (Bool.and_eq_true_iff.mp h).1)) (Bool.and_eq_true_iff.mp h).2

theorem aluEXNOR (o : Microword) : Statement (.aluEXNOR o) :=
  fun h => of_self (asAlu_self (of_decide_eq_true (Bool.and_eq_true_iff.mp h).1)) (Bool.and_eq_true_iff.mp h).2

theorem destQREG (o : Microword) : Statement (.destQREG o) := fun h => by
  obtain ⟨h1, hr⟩ := Bool.and_eq_true_iff.mp h
  obtain ⟨h2, hq⟩ := Bool.and_eq_true_iff.mp h1
  exact of_self (asDestQ_self (of_decide_eq_true h2) hq) hr

theorem destNOP (o : Microword) : Statement (.destNOP o) := fun h => by
  obtain ⟨h1, hr⟩ := Bool.and_eq_true_iff.mp h
  obtain ⟨h2, hq⟩ := Bool.and_eq_true_iff.mp h1
  exact of_self (asDest_self (of_decide_eq_true h2) (by simpa using hq)) hr

theorem destRAMA (o : Microword) : Statement (.destRAMA o) := fun h => by
  obtain ⟨h1, hr⟩ := Bool.and_eq_true_iff.mp h
  obtain ⟨h2, hq⟩ := Bool.and_eq_true_iff.mp h1
  exact of_self (asDestQ_self (of_decide_eq_true h2) hq) hr

theorem destRAMF (o : Microword) : Statement (.destRAMF o) := fun h => by
  obtain ⟨h1, hr⟩ := Bool.and_eq_true_iff.mp h
  obtain ⟨h2, hq⟩ := Bool.and_eq_true_iff.mp h1
  exact of_self (asDest_self (of_decide_eq_true h2) (by simpa using hq)) hr

theorem destRAMQD (o : Microword) : Statement (.destRAMQD o) := fun h => by
  obtain ⟨h1, hr⟩ := Bool.and_eq_true_iff.mp h
  obtain ⟨h2, hq⟩ := Bool.and_eq_true_iff.mp h1
  exact of_self (asDestQ_self (of_decide_eq_true h2) hq) hr

theorem destRAMD (o : Microword) : Statement (.destRAMD o) := fun h => by
  obtain ⟨h1, hr⟩ := Bool.and_eq_true_iff.mp h
  obtain ⟨h2, hq⟩ := Bool.and_eq_true_iff.mp h1
  exact of_self (asDest_self (of_decide_eq_true h2) (by simpa using hq)) hr

theorem destRAMQU (o : Microword) : Statement (.destRAMQU o) := fun h => by
  obtain ⟨h1, hr⟩ := Bool.and_eq_true_iff.mp h
  obtain ⟨h2, hq⟩ := Bool.and_eq_true_iff.mp h1
  exact of_self (asDestQ_self (of_decide_eq_true h2) hq) hr

theorem destRAMU (o : Microword) : Statement (.destRAMU o) := fun h => by
  obtain ⟨h1, hr⟩ := Bool.and_eq_true_iff.mp h
  obtain ⟨h2, hq⟩ := Bool.and_eq_true_iff.mp h1
  exact of_self (asDest_self (of_decide_eq_true h2) (by simpa using hq)) hr

theorem cycleShift (o : Microword) : Statement (.cycleShift o) :=
  fun h => of_self (asCycle_self (Bool.and_eq_true_iff.mp h).1) (Bool.and_eq_true_iff.mp h).2

theorem enSU (o : Microword) : Statement (.enSU o) :=
  fun h => of_self (asEnSU_self (Bool.and_eq_true_iff.mp h).1) (Bool.and_eq_true_iff.mp h).2

theorem memLatch (o : Microword) : Statement (.memLatch o) :=
  fun h => of_self (asMem_self (Bool.and_eq_true_iff.mp h).1) (Bool.and_eq_true_iff.mp h).2

theorem memWrite (o : Microword) : Statement (.memWrite o) :=
  fun h => of_self (asMem_self (Bool.and_eq_true_iff.mp h).1) (Bool.and_eq_true_iff.mp h).2

theorem memRead (o : Microword) : Statement (.memRead o) :=
  fun h => of_self (asMem_self (Bool.and_eq_true_iff.mp h).1) (Bool.and_eq_true_iff.mp h).2

theorem fyNOP (o : Microword) : Statement (.fyNOP o) :=
  fun h => of_self (asFY_self (of_decide_eq_true (Bool.and_eq_true_iff.mp h).1)) (Bool.and_eq_true_iff.mp h).2

theorem fyQOp (o : Microword) : Statement (.fyQOp o) :=
  fun h => of_self (asFY_self (of_decide_eq_true (Bool.and_eq_true_iff.mp h).1)) (Bool.and_eq_true_iff.mp h).2

theorem fyCycle (o : Microword) : Statement (.fyCycle o) :=
  fun h => of_self (asFY_self (of_decide_eq_true (Bool.and_eq_true_iff.mp h).1)) (Bool.and_eq_true_iff.mp h).2

theorem fyQCycle (o : Microword) : Statement (.fyQCycle o) :=
  fun h => of_self (asFY_self (of_decide_eq_true (Bool.and_eq_true_iff.mp h).1)) (Bool.and_eq_true_iff.mp h).2

theorem fyBlock (o : Microword) : Statement (.fyBlock o) :=
  fun h => of_self (asFY_self (of_decide_eq_true (Bool.and_eq_true_iff.mp h).1)) (Bool.and_eq_true_iff.mp h).2

theorem fyMap (o : Microword) : Statement (.fyMap o) :=
  fun h => of_self (asFY_self (of_decide_eq_true (Bool.and_eq_true_iff.mp h).1)) (Bool.and_eq_true_iff.mp h).2

theorem fyReserved6 (w : ControlWord) : Statement (.fyReserved6 w) :=
  fun h => of_rowBits h

theorem fyReserved7 (w : ControlWord) : Statement (.fyReserved7 w) :=
  fun h => of_rowBits h

theorem fyReserved8 (w : ControlWord) : Statement (.fyReserved8 w) :=
  fun h => of_rowBits h

theorem fyReserved9 (w : ControlWord) : Statement (.fyReserved9 w) :=
  fun h => of_rowBits h

theorem fyReserved10 (w : ControlWord) : Statement (.fyReserved10 w) :=
  fun h => of_rowBits h

theorem fyReserved11 (w : ControlWord) : Statement (.fyReserved11 w) :=
  fun h => of_rowBits h

theorem fyReserved12 (w : ControlWord) : Statement (.fyReserved12 w) :=
  fun h => of_rowBits h

theorem fyReserved13 (w : ControlWord) : Statement (.fyReserved13 w) :=
  fun h => of_rowBits h

theorem fyReserved14 (w : ControlWord) : Statement (.fyReserved14 w) :=
  fun h => of_rowBits h

theorem fyReserved15 (w : ControlWord) : Statement (.fyReserved15 w) :=
  fun h => of_rowBits h

theorem bdNegBr (o : Microword) : Statement (.bdNegBr o) :=
  fun h => of_self (asBD_self (of_decide_eq_true (Bool.and_eq_true_iff.mp h).1)) (Bool.and_eq_true_iff.mp h).2

theorem bdZeroBr (o : Microword) : Statement (.bdZeroBr o) :=
  fun h => of_self (asBD_self (of_decide_eq_true (Bool.and_eq_true_iff.mp h).1)) (Bool.and_eq_true_iff.mp h).2

theorem bdNZeroBr (o : Microword) : Statement (.bdNZeroBr o) :=
  fun h => of_self (asBD_self (of_decide_eq_true (Bool.and_eq_true_iff.mp h).1)) (Bool.and_eq_true_iff.mp h).2

theorem bdIntBr (o : Microword) : Statement (.bdIntBr o) :=
  fun h => of_self (asBD_self (of_decide_eq_true (Bool.and_eq_true_iff.mp h).1)) (Bool.and_eq_true_iff.mp h).2

theorem bdPgCarryBr (o : Microword) : Statement (.bdPgCarryBr o) :=
  fun h => of_self (asBD_self (of_decide_eq_true (Bool.and_eq_true_iff.mp h).1)) (Bool.and_eq_true_iff.mp h).2

theorem bdCarryBr (o : Microword) : Statement (.bdCarryBr o) :=
  fun h => of_self (asBD_self (of_decide_eq_true (Bool.and_eq_true_iff.mp h).1)) (Bool.and_eq_true_iff.mp h).2

theorem bdXRefBr (o : Microword) : Statement (.bdXRefBr o) :=
  fun h => of_self (asBD_self (of_decide_eq_true (Bool.and_eq_true_iff.mp h).1)) (Bool.and_eq_true_iff.mp h).2

theorem bdNibCarryBr (o : Microword) : Statement (.bdNibCarryBr o) :=
  fun h => of_self (asBD_self (of_decide_eq_true (Bool.and_eq_true_iff.mp h).1)) (Bool.and_eq_true_iff.mp h).2

theorem bdYDisp (o : Microword) : Statement (.bdYDisp o) :=
  fun h => of_self (asBD_self (of_decide_eq_true (Bool.and_eq_true_iff.mp h).1)) (Bool.and_eq_true_iff.mp h).2

theorem bdYIODisp (o : Microword) : Statement (.bdYIODisp o) :=
  fun h => of_self (asBD_self (of_decide_eq_true (Bool.and_eq_true_iff.mp h).1)) (Bool.and_eq_true_iff.mp h).2

theorem bdIBDisp (o : Microword) : Statement (.bdIBDisp o) :=
  fun h => of_self (asBD_self (of_decide_eq_true (Bool.and_eq_true_iff.mp h).1)) (Bool.and_eq_true_iff.mp h).2

theorem bdAlwaysIBDisp (o : Microword) : Statement (.bdAlwaysIBDisp o) :=
  fun h => of_self (asBD_self (of_decide_eq_true (Bool.and_eq_true_iff.mp h).1)) (Bool.and_eq_true_iff.mp h).2

theorem bdIBPtrDisp (o : Microword) : Statement (.bdIBPtrDisp o) :=
  fun h => of_self (asBD_self (of_decide_eq_true (Bool.and_eq_true_iff.mp h).1)) (Bool.and_eq_true_iff.mp h).2

theorem bdReserved13 (w : ControlWord) : Statement (.bdReserved13 w) :=
  fun h => of_rowBits h

theorem bdReserved14 (w : ControlWord) : Statement (.bdReserved14 w) :=
  fun h => of_rowBits h

theorem bdReserved15 (w : ControlWord) : Statement (.bdReserved15 w) :=
  fun h => of_rowBits h

theorem ioYNOP (o : Microword) : Statement (.ioYNOP o) :=
  fun h => of_self (asIOY_self (of_decide_eq_true (Bool.and_eq_true_iff.mp h).1)) (Bool.and_eq_true_iff.mp h).2

theorem ioYIOPOData (o : Microword) : Statement (.ioYIOPOData o) :=
  fun h => of_self (asIOY_self (of_decide_eq_true (Bool.and_eq_true_iff.mp h).1)) (Bool.and_eq_true_iff.mp h).2

theorem ioYIOPCtl (o : Microword) : Statement (.ioYIOPCtl o) :=
  fun h => of_self (asIOY_self (of_decide_eq_true (Bool.and_eq_true_iff.mp h).1)) (Bool.and_eq_true_iff.mp h).2

theorem ioYDMADone (o : Microword) : Statement (.ioYDMADone o) :=
  fun h => of_self (asIOY_self (of_decide_eq_true (Bool.and_eq_true_iff.mp h).1)) (Bool.and_eq_true_iff.mp h).2

theorem ioYReserved4 (w : ControlWord) : Statement (.ioYReserved4 w) :=
  fun h => of_rowBits h

theorem ioYReserved5 (w : ControlWord) : Statement (.ioYReserved5 w) :=
  fun h => of_rowBits h

theorem ioYReserved6 (w : ControlWord) : Statement (.ioYReserved6 w) :=
  fun h => of_rowBits h

theorem ioYReserved7 (w : ControlWord) : Statement (.ioYReserved7 w) :=
  fun h => of_rowBits h

theorem ioYReserved8 (w : ControlWord) : Statement (.ioYReserved8 w) :=
  fun h => of_rowBits h

theorem ioYReserved9 (w : ControlWord) : Statement (.ioYReserved9 w) :=
  fun h => of_rowBits h

theorem ioYReserved10 (w : ControlWord) : Statement (.ioYReserved10 w) :=
  fun h => of_rowBits h

theorem ioYReserved11 (w : ControlWord) : Statement (.ioYReserved11 w) :=
  fun h => of_rowBits h

theorem ioYReserved12 (w : ControlWord) : Statement (.ioYReserved12 w) :=
  fun h => of_rowBits h

theorem ioYReserved13 (w : ControlWord) : Statement (.ioYReserved13 w) :=
  fun h => of_rowBits h

theorem ioYReserved14 (w : ControlWord) : Statement (.ioYReserved14 w) :=
  fun h => of_rowBits h

theorem ioYReserved15 (w : ControlWord) : Statement (.ioYReserved15 w) :=
  fun h => of_rowBits h

theorem fsyReserved3 (w : ControlWord) : Statement (.fsyReserved3 w) :=
  fun h => of_rowBits h

theorem fxNOP (o : Microword) : Statement (.fxNOP o) :=
  fun h => of_self (asFX_self (of_decide_eq_true (Bool.and_eq_true_iff.mp h).1)) (Bool.and_eq_true_iff.mp h).2

theorem fxBusU (o : Microword) : Statement (.fxBusU o) :=
  fun h => of_self (asFX_self (of_decide_eq_true (Bool.and_eq_true_iff.mp h).1)) (Bool.and_eq_true_iff.mp h).2

theorem fxBusRH (o : Microword) : Statement (.fxBusRH o) :=
  fun h => of_self (asFX_self (of_decide_eq_true (Bool.and_eq_true_iff.mp h).1)) (Bool.and_eq_true_iff.mp h).2

theorem fxBusIB (o : Microword) : Statement (.fxBusIB o) :=
  fun h => of_self (asFX_self (of_decide_eq_true (Bool.and_eq_true_iff.mp h).1)) (Bool.and_eq_true_iff.mp h).2

theorem fxBusIBNA (o : Microword) : Statement (.fxBusIBNA o) :=
  fun h => of_self (asFX_self (of_decide_eq_true (Bool.and_eq_true_iff.mp h).1)) (Bool.and_eq_true_iff.mp h).2

theorem fxBusIOP (o : Microword) : Statement (.fxBusIOP o) :=
  fun h => of_self (asFX_self (of_decide_eq_true (Bool.and_eq_true_iff.mp h).1)) (Bool.and_eq_true_iff.mp h).2

theorem fxBusLink (o : Microword) : Statement (.fxBusLink o) :=
  fun h => of_self (asFX_self (of_decide_eq_true (Bool.and_eq_true_iff.mp h).1)) (Bool.and_eq_true_iff.mp h).2

theorem fxBusErr (o : Microword) : Statement (.fxBusErr o) :=
  fun h => of_self (asFX_self (of_decide_eq_true (Bool.and_eq_true_iff.mp h).1)) (Bool.and_eq_true_iff.mp h).2

theorem fxRHWrite (o : Microword) : Statement (.fxRHWrite o) :=
  fun h => of_self (asFX_self (of_decide_eq_true (Bool.and_eq_true_iff.mp h).1)) (Bool.and_eq_true_iff.mp h).2

theorem fxIBLoad (o : Microword) : Statement (.fxIBLoad o) :=
  fun h => of_self (asFX_self (of_decide_eq_true (Bool.and_eq_true_iff.mp h).1)) (Bool.and_eq_true_iff.mp h).2

theorem fxClrIntErr (o : Microword) : Statement (.fxClrIntErr o) :=
  fun h => of_self (asFX_self (of_decide_eq_true (Bool.and_eq_true_iff.mp h).1)) (Bool.and_eq_true_iff.mp h).2

theorem fxReserved11 (w : ControlWord) : Statement (.fxReserved11 w) :=
  fun h => of_rowBits h

theorem fxReserved12 (w : ControlWord) : Statement (.fxReserved12 w) :=
  fun h => of_rowBits h

theorem fxReserved13 (w : ControlWord) : Statement (.fxReserved13 w) :=
  fun h => of_rowBits h

theorem fxReserved14 (w : ControlWord) : Statement (.fxReserved14 w) :=
  fun h => of_rowBits h

theorem fxReserved15 (w : ControlWord) : Statement (.fxReserved15 w) :=
  fun h => of_rowBits h

theorem fzLink (o : Microword) : Statement (.fzLink o) :=
  fun h => of_self (asLink_self (Bool.and_eq_true_iff.mp h).1) (Bool.and_eq_true_iff.mp h).2

theorem fzNOP (o : Microword) : Statement (.fzNOP o) :=
  fun h => of_self (asZ_self (of_decide_eq_true (Bool.and_eq_true_iff.mp h).1)) (Bool.and_eq_true_iff.mp h).2

theorem fzPush (o : Microword) : Statement (.fzPush o) :=
  fun h => of_self (asZ_self (of_decide_eq_true (Bool.and_eq_true_iff.mp h).1)) (Bool.and_eq_true_iff.mp h).2

theorem fzPop (o : Microword) : Statement (.fzPop o) :=
  fun h => of_self (asZ_self (of_decide_eq_true (Bool.and_eq_true_iff.mp h).1)) (Bool.and_eq_true_iff.mp h).2

theorem fzPop2 (o : Microword) : Statement (.fzPop2 o) :=
  fun h => of_self (asZ_self (of_decide_eq_true (Bool.and_eq_true_iff.mp h).1)) (Bool.and_eq_true_iff.mp h).2

theorem fzReserved12 (w : ControlWord) : Statement (.fzReserved12 w) :=
  fun h => of_rowBits h

theorem fzReserved13 (w : ControlWord) : Statement (.fzReserved13 w) :=
  fun h => of_rowBits h

theorem fzReserved14 (w : ControlWord) : Statement (.fzReserved14 w) :=
  fun h => of_rowBits h

theorem fzReserved15 (w : ControlWord) : Statement (.fzReserved15 w) :=
  fun h => of_rowBits h

theorem ioZNOP (o : Microword) : Statement (.ioZNOP o) :=
  fun h => of_self (asZ_self (of_decide_eq_true (Bool.and_eq_true_iff.mp h).1)) (Bool.and_eq_true_iff.mp h).2

theorem ioZIOPOData (o : Microword) : Statement (.ioZIOPOData o) :=
  fun h => of_self (asZ_self (of_decide_eq_true (Bool.and_eq_true_iff.mp h).1)) (Bool.and_eq_true_iff.mp h).2

theorem ioZIOPCtl (o : Microword) : Statement (.ioZIOPCtl o) :=
  fun h => of_self (asZ_self (of_decide_eq_true (Bool.and_eq_true_iff.mp h).1)) (Bool.and_eq_true_iff.mp h).2

theorem ioZDMADone (o : Microword) : Statement (.ioZDMADone o) :=
  fun h => of_self (asZ_self (of_decide_eq_true (Bool.and_eq_true_iff.mp h).1)) (Bool.and_eq_true_iff.mp h).2

theorem ioZReserved4 (w : ControlWord) : Statement (.ioZReserved4 w) :=
  fun h => of_rowBits h

theorem ioZReserved5 (w : ControlWord) : Statement (.ioZReserved5 w) :=
  fun h => of_rowBits h

theorem ioZReserved6 (w : ControlWord) : Statement (.ioZReserved6 w) :=
  fun h => of_rowBits h

theorem ioZReserved7 (w : ControlWord) : Statement (.ioZReserved7 w) :=
  fun h => of_rowBits h

theorem ioZReserved8 (w : ControlWord) : Statement (.ioZReserved8 w) :=
  fun h => of_rowBits h

theorem ioZReserved9 (w : ControlWord) : Statement (.ioZReserved9 w) :=
  fun h => of_rowBits h

theorem ioZReserved10 (w : ControlWord) : Statement (.ioZReserved10 w) :=
  fun h => of_rowBits h

theorem ioZReserved11 (w : ControlWord) : Statement (.ioZReserved11 w) :=
  fun h => of_rowBits h

theorem ioZReserved12 (w : ControlWord) : Statement (.ioZReserved12 w) :=
  fun h => of_rowBits h

theorem ioZReserved13 (w : ControlWord) : Statement (.ioZReserved13 w) :=
  fun h => of_rowBits h

theorem ioZReserved14 (w : ControlWord) : Statement (.ioZReserved14 w) :=
  fun h => of_rowBits h

theorem ioZReserved15 (w : ControlWord) : Statement (.ioZReserved15 w) :=
  fun h => of_rowBits h

theorem lit (o : Microword) : Statement (.lit o) :=
  fun h => of_self (asLit_self (Bool.and_eq_true_iff.mp h).1) (Bool.and_eq_true_iff.mp h).2

theorem fszReserved3 (w : ControlWord) : Statement (.fszReserved3 w) :=
  fun h => of_rowBits h

theorem invalidBusIBIBDisp (w : ControlWord) : Statement (.invalidBusIBIBDisp w) :=
  fun h => of_rowBits h

theorem invalidBusIBAlwaysIBDisp (w : ControlWord) : Statement (.invalidBusIBAlwaysIBDisp w) :=
  fun h => of_rowBits h

theorem invalidBusIBNAIBDisp (w : ControlWord) : Statement (.invalidBusIBNAIBDisp w) :=
  fun h => of_rowBits h

theorem invalidBusIBNAAlwaysIBDisp (w : ControlWord) : Statement (.invalidBusIBNAAlwaysIBDisp w) :=
  fun h => of_rowBits h

end Sys2Proof.Laws.CarriesItsWord
end

