-- ==== Sys2Proof/Tests/Slice0.lean ====
section
/-! SUPPORT. Tests on fixed values: what WellFormed refuses, what Decode reads from words written out from 30 R111
and the code tables, one click of a word (the vectors of spec/95_test_vectors.md, whose expected results are the
spec's), and, for each statement with hypotheses, a state and operands that meet them (`witness_<statement>`). -/

namespace Sys2Proof.Tests

open Sys2Proof.Machine

/-- The assembler's defaults (30 R137), with INIA = 0x041 and the parity bit clear. -/
def base : Microword :=
  ⟨0, 0, .dz, .add, .none, false, false, false, false, .fy .nop, .fn .nop .nop, 0x041⟩

/-- The same word with odd parity, so that no parity trap is raised (30 R136). -/
def plain : Microword := { base with ep := true }

/-- A word with two IB reads: BusIB and IBDisp (30 R133). -/
def twoReads : Microword := { base with y := .bd .ibDisp, xz := .fn .busIB .nop }

/-! ### WellFormed -/

/-- Each row refuses a word whose field holds another code. -/
theorem test_wf_refuses_words_without_the_rows_code :
    [.srcAQ { base with aS := .ab }, .srcAB { base with aS := .zq }, .srcZQ { base with aS := .zb },
      .srcZB { base with aS := .za }, .srcZA { base with aS := .da }, .srcDA { base with aS := .dq },
      .srcDQ { base with aS := .dz }, .srcDZ { base with aS := .aq }, .aluADD { base with aF := .subr },
      .aluSUBR { base with aF := .subs }, .aluSUBS { base with aF := .or }, .aluOR { base with aF := .and },
      .aluAND { base with aF := .notrs }, .aluNOTRS { base with aF := .exor },
      .aluEXOR { base with aF := .exnor }, .aluEXNOR { base with aF := .add },
      .destQREG { base with aD := .none, y := .fy .nop }, .destNOP { base with aD := .none, y := .fy .qOp },
      .destRAMA { base with aD := .ram, y := .fy .nop }, .destRAMF { base with aD := .ram, y := .fy .qCycle },
      .destRAMQD { base with aD := .down, y := .fy .cycle }, .destRAMD { base with aD := .down, y := .fy .qOp },
      .destRAMQU { base with aD := .up, y := .fy .nop }, .destRAMU { base with aD := .up, y := .fy .qCycle },
      .cycleShift { base with aD := .up, y := .fy .qOp }, .enSU { base with enSU := false },
      .memLatch { base with mem := false }, .memWrite { base with mem := false },
      .memRead { base with mem := false }, .fyNOP { base with y := .bd .negBr },
      .fyQOp { base with y := .fy .nop }, .fyCycle { base with y := .fy .nop },
      .fyQCycle { base with y := .fy .nop }, .fyBlock { base with y := .fy .nop },
      .fyMap { base with y := .fy .nop }, .bdNegBr { base with y := .bd .zeroBr },
      .bdZeroBr { base with y := .bd .negBr }, .bdNZeroBr { base with y := .bd .negBr },
      .bdIntBr { base with y := .bd .negBr }, .bdPgCarryBr { base with y := .bd .negBr },
      .bdCarryBr { base with y := .bd .negBr }, .bdXRefBr { base with y := .bd .negBr },
      .bdNibCarryBr { base with y := .bd .negBr }, .bdYDisp { base with y := .bd .negBr },
      .bdYIODisp { base with y := .bd .negBr }, .bdIBDisp { base with y := .bd .negBr },
      .bdAlwaysIBDisp { base with y := .bd .negBr }, .bdIBPtrDisp { base with y := .bd .negBr },
      .ioYNOP { base with y := .io .dmaDone }, .ioYIOPOData { base with y := .io .dmaDone },
      .ioYIOPCtl { base with y := .io .dmaDone }, .ioYDMADone { base with y := .io .nop },
      .fxNOP { base with xz := .lit 0 }, .fxBusU { base with xz := .fn .nop .nop },
      .fxBusRH { base with xz := .fn .nop .nop }, .fxBusIB { base with xz := .fn .nop .nop },
      .fxBusIBNA { base with xz := .fn .nop .nop }, .fxBusIOP { base with xz := .fn .nop .nop },
      .fxBusLink { base with xz := .fn .nop .nop }, .fxBusErr { base with xz := .fn .nop .nop },
      .fxRHWrite { base with xz := .fn .nop .nop }, .fxIBLoad { base with xz := .fn .nop .nop },
      .fxClrIntErr { base with xz := .fn .nop .nop }, .fzLink { base with xz := .fn .nop .nop },
      .fzNOP { base with xz := .lit 0x80 }, .fzPush { base with xz := .fn .nop .nop },
      .fzPop { base with xz := .fn .nop .nop }, .fzPop2 { base with xz := .fn .nop .nop },
      .ioZNOP { base with xz := .fn .nop .nop }, .ioZIOPOData { base with xz := .fn .nop .nop },
      .ioZIOPCtl { base with xz := .fn .nop .nop }, .ioZDMADone { base with xz := .fn .nop .nop },
      .lit { base with xz := .fn .nop .nop }].all (fun i : Instr => !i.wf) = true := by decide

/-- Each row whose code two IB reads can stand beside refuses them (30 R133). -/
theorem test_wf_refuses_two_ib_reads :
    [.microword twoReads, .srcAQ { twoReads with aS := .aq }, .srcAB { twoReads with aS := .ab },
      .srcZQ { twoReads with aS := .zq }, .srcZB { twoReads with aS := .zb }, .srcZA { twoReads with aS := .za },
      .srcDA { twoReads with aS := .da }, .srcDQ { twoReads with aS := .dq }, .srcDZ { twoReads with aS := .dz },
      .aluADD { twoReads with aF := .add }, .aluSUBR { twoReads with aF := .subr },
      .aluSUBS { twoReads with aF := .subs }, .aluOR { twoReads with aF := .or },
      .aluAND { twoReads with aF := .and }, .aluNOTRS { twoReads with aF := .notrs },
      .aluEXOR { twoReads with aF := .exor }, .aluEXNOR { twoReads with aF := .exnor },
      .destNOP { twoReads with aD := .none }, .destRAMF { twoReads with aD := .ram },
      .destRAMD { twoReads with aD := .down }, .destRAMU { twoReads with aD := .up },
      .enSU { twoReads with enSU := true }, .memLatch { twoReads with mem := true },
      .memWrite { twoReads with mem := true }, .memRead { twoReads with mem := true }, .bdIBDisp twoReads,
      .bdAlwaysIBDisp { twoReads with y := .bd .alwaysIBDisp }, .fxBusIB twoReads,
      .fxBusIBNA { twoReads with xz := .fn .busIBNA .nop }, .fzLink { twoReads with xz := .fn .busIB (.link 0) },
      .fzNOP { twoReads with xz := .fn .busIB .nop }, .fzPush { twoReads with xz := .fn .busIB .push },
      .fzPop { twoReads with xz := .fn .busIB .pop }, .fzPop2 { twoReads with xz := .fn .busIB .pop2 },
      .ioZNOP { twoReads with xz := .fn .busIBNA (.io .nop) },
      .ioZIOPOData { twoReads with xz := .fn .busIBNA (.io .iopOData) },
      .ioZIOPCtl { twoReads with xz := .fn .busIBNA (.io .iopCtl) },
      .ioZDMADone { twoReads with xz := .fn .busIBNA (.io .dmaDone) }].all
        (fun i : Instr => !i.wf) = true := by decide

/-- Each reserved row refuses a word without its code. -/
theorem test_wf_refuses_words_off_the_reserved_row :
    [.fyReserved6 0x00E080008041, .fyReserved7 0x00E080008041, .fyReserved8 0x00E080008041,
      .fyReserved9 0x00E080008041, .fyReserved10 0x00E080008041, .fyReserved11 0x00E080008041,
      .fyReserved12 0x00E080008041, .fyReserved13 0x00E080008041, .fyReserved14 0x00E080008041,
      .fyReserved15 0x00E080008041, .bdReserved13 0x00E080008041, .bdReserved14 0x00E080008041,
      .bdReserved15 0x00E080008041, .ioYReserved4 0x00E080008041, .ioYReserved5 0x00E080008041,
      .ioYReserved6 0x00E080008041, .ioYReserved7 0x00E080008041, .ioYReserved8 0x00E080008041,
      .ioYReserved9 0x00E080008041, .ioYReserved10 0x00E080008041, .ioYReserved11 0x00E080008041,
      .ioYReserved12 0x00E080008041, .ioYReserved13 0x00E080008041, .ioYReserved14 0x00E080008041,
      .ioYReserved15 0x00E080008041, .fsyReserved3 0x00E080008041, .fxReserved11 0x00E080008041,
      .fxReserved12 0x00E080008041, .fxReserved13 0x00E080008041, .fxReserved14 0x00E080008041,
      .fxReserved15 0x00E080008041, .fzReserved12 0x00E080008041, .fzReserved13 0x00E080008041,
      .fzReserved14 0x00E080008041, .fzReserved15 0x00E080008041, .ioZReserved4 0x00E080008041,
      .ioZReserved5 0x00E080008041, .ioZReserved6 0x00E080008041, .ioZReserved7 0x00E080008041,
      .ioZReserved8 0x00E080008041, .ioZReserved9 0x00E080008041, .ioZReserved10 0x00E080008041,
      .ioZReserved11 0x00E080008041, .ioZReserved12 0x00E080008041, .ioZReserved13 0x00E080008041,
      .ioZReserved14 0x00E080008041, .ioZReserved15 0x00E080008041, .fszReserved3 0x00E080008041,
      .invalidBusIBIBDisp 0x00E080008041, .invalidBusIBAlwaysIBDisp 0x00E080008041,
      .invalidBusIBNAIBDisp 0x00E080008041, .invalidBusIBNAAlwaysIBDisp 0x00E080008041].all
        (fun i : Instr => !i.wf) = true := by decide

/-! ### Decode: every row, its word written out from 30 R111 and R112 to R131 -/

theorem test_decode_microword :
    decode .c1 0x00E080008041 = .microword { base with ep := true } := by decide

theorem test_decode_source_rows :
    decode .c1 0x0000C0008041 = .srcAQ { base with aS := .aq, ep := true, cin := true } ∧
    decode .c1 0x002080008041 = .srcAB { base with aS := .ab, ep := true } ∧
    decode .c1 0x004080008041 = .srcZQ { base with aS := .zq, ep := true } ∧
    decode .c1 0x006000008041 = .srcZB { base with aS := .zb } ∧
    decode .c1 0x008080008041 = .srcZA { base with aS := .za, ep := true } ∧
    decode .c1 0x00A000008041 = .srcDA { base with aS := .da } ∧
    decode .c1 0x00C000008041 = .srcDQ { base with aS := .dq } ∧
    decode .c1 0x00E000005041 = .srcDZ { base with xz := .fn .nop (.link 5) } := by decide

theorem test_decode_function_rows :
    decode .c1 0x000040003041 = .aluADD { base with aS := .aq, cin := true, xz := .fn .nop (.link 3) } ∧
    decode .c1 0x000480008041 = .aluSUBR { base with aS := .aq, aF := .subr, ep := true } ∧
    decode .c1 0x000880008041 = .aluSUBS { base with aS := .aq, aF := .subs, ep := true } ∧
    decode .c1 0x000C00008041 = .aluOR { base with aS := .aq, aF := .or } ∧
    decode .c1 0x001080008041 = .aluAND { base with aS := .aq, aF := .and, ep := true } ∧
    decode .c1 0x001400008041 = .aluNOTRS { base with aS := .aq, aF := .notrs } ∧
    decode .c1 0x001800008041 = .aluEXOR { base with aS := .aq, aF := .exor } ∧
    decode .c1 0x001C80008041 = .aluEXNOR { base with aS := .aq, aF := .exnor, ep := true } := by decide

theorem test_decode_destination_rows :
    decode .c1 0x00E000108041 = .destQREG { base with y := .fy .qOp } ∧
    decode .c1 0x00EC80008041 = .destNOP { base with aF := .or, ep := true } ∧
    decode .c1 0x12E180108041 = .destRAMA { base with rA := 1, rB := 2, aD := .ram, ep := true, y := .fy .qOp } ∧
    decode .c1 0x0FE100008041 = .destRAMF { base with rB := 15, aD := .ram } ∧
    decode .c1 0x00E280108041 = .destRAMQD { base with aD := .down, ep := true, y := .fy .qOp } ∧
    decode .c1 0x00E200008041 = .destRAMD { base with aD := .down } ∧
    decode .c1 0x00E300108041 = .destRAMQU { base with aD := .up, y := .fy .qOp } ∧
    decode .c1 0x00E380008041 = .destRAMU { base with aD := .up, ep := true } ∧
    decode .c1 0x00E300208041 = .cycleShift { base with aD := .up, y := .fy .cycle } := by decide

theorem test_decode_su_and_memory_rows :
    decode .c1 0xABE0A0008041 = .enSU { base with rA := 10, rB := 11, ep := true, enSU := true } ∧
    decode .c1 0x20E090008041 = .memLatch { base with rA := 2, ep := true, mem := true } ∧
    decode .c2 0x00E010008041 = .memWrite { base with mem := true } ∧
    decode .c3 0x05E190008041 = .memRead { base with rB := 5, aD := .ram, ep := true, mem := true } := by decide

theorem test_decode_fy_rows :
    decode .c1 0x00E0C0000041 = .fyNOP { base with ep := true, cin := true, xz := .fn .nop (.link 0) } ∧
    decode .c1 0x000080108041 = .fyQOp { base with aS := .aq, ep := true, y := .fy .qOp } ∧
    decode .c1 0x00E000208041 = .fyCycle { base with y := .fy .cycle } ∧
    decode .c1 0x00E080308041 = .fyQCycle { base with ep := true, y := .fy .qCycle } ∧
    decode .c1 0x00E000408041 = .fyBlock { base with y := .fy .block } ∧
    decode .c1 0x00E010508041 = .fyMap { base with mem := true, y := .fy .map } := by decide

theorem test_decode_reserved_fy_rows :
    decode .c1 0x00E080608041 = .fyReserved6 0x00E080608041 ∧
    decode .c1 0x00E000708041 = .fyReserved7 0x00E000708041 ∧
    decode .c1 0x00E000808041 = .fyReserved8 0x00E000808041 ∧
    decode .c1 0x00E080908041 = .fyReserved9 0x00E080908041 ∧
    decode .c1 0x00E080A08041 = .fyReserved10 0x00E080A08041 ∧
    decode .c1 0x00E000B08041 = .fyReserved11 0x00E000B08041 ∧
    decode .c1 0x00E080C08041 = .fyReserved12 0x00E080C08041 ∧
    decode .c1 0x00E000D08041 = .fyReserved13 0x00E000D08041 ∧
    decode .c1 0x00E000E08041 = .fyReserved14 0x00E000E08041 ∧
    decode .c1 0x00E080F08041 = .fyReserved15 0x00E080F08041 := by decide

theorem test_decode_branch_rows :
    decode .c1 0x00E004008041 = .bdNegBr { base with y := .bd .negBr } ∧
    decode .c1 0x00E084108041 = .bdZeroBr { base with ep := true, y := .bd .zeroBr } ∧
    decode .c1 0x00E084208041 = .bdNZeroBr { base with ep := true, y := .bd .nZeroBr } ∧
    decode .c1 0x00E004308041 = .bdIntBr { base with y := .bd .intBr } ∧
    decode .c1 0x00E084408041 = .bdPgCarryBr { base with ep := true, y := .bd .pgCarryBr } ∧
    decode .c1 0x00E004508041 = .bdCarryBr { base with y := .bd .carryBr } ∧
    decode .c1 0x00E004608041 = .bdXRefBr { base with y := .bd .xRefBr } ∧
    decode .c1 0x00E084708041 = .bdNibCarryBr { base with ep := true, y := .bd .nibCarryBr } ∧
    decode .c1 0x00E084808041 = .bdYDisp { base with ep := true, y := .bd .yDisp } ∧
    decode .c1 0x00E004908041 = .bdYIODisp { base with y := .bd .yIODisp } ∧
    decode .c1 0x00E004A08041 = .bdIBDisp { base with y := .bd .ibDisp } ∧
    decode .c1 0x00E084B08041 = .bdAlwaysIBDisp { base with ep := true, y := .bd .alwaysIBDisp } ∧
    decode .c1 0x00E004C08041 = .bdIBPtrDisp { base with y := .bd .ibPtrDisp } := by decide

theorem test_decode_reserved_branch_rows :
    decode .c1 0x00E084D08041 = .bdReserved13 0x00E084D08041 ∧
    decode .c1 0x00E084E08041 = .bdReserved14 0x00E084E08041 ∧
    decode .c1 0x00E004F08041 = .bdReserved15 0x00E004F08041 ∧
    decode .c1 0x00E08C008041 = .fsyReserved3 0x00E08C008041 := by decide

theorem test_decode_io_rows_of_the_y_field :
    decode .c1 0x00E008008041 = .ioYNOP { base with y := .io .nop } ∧
    decode .c1 0x00E088108041 = .ioYIOPOData { base with ep := true, y := .io .iopOData } ∧
    decode .c1 0x00E088208041 = .ioYIOPCtl { base with ep := true, y := .io .iopCtl } ∧
    decode .c1 0x00E008308041 = .ioYDMADone { base with y := .io .dmaDone } := by decide

theorem test_decode_reserved_io_rows_of_the_y_field :
    decode .c1 0x00E088408041 = .ioYReserved4 0x00E088408041 ∧
    decode .c1 0x00E008508041 = .ioYReserved5 0x00E008508041 ∧
    decode .c1 0x00E008608041 = .ioYReserved6 0x00E008608041 ∧
    decode .c1 0x00E088708041 = .ioYReserved7 0x00E088708041 ∧
    decode .c1 0x00E088808041 = .ioYReserved8 0x00E088808041 ∧
    decode .c1 0x00E008908041 = .ioYReserved9 0x00E008908041 ∧
    decode .c1 0x00E008A08041 = .ioYReserved10 0x00E008A08041 ∧
    decode .c1 0x00E088B08041 = .ioYReserved11 0x00E088B08041 ∧
    decode .c1 0x00E008C08041 = .ioYReserved12 0x00E008C08041 ∧
    decode .c1 0x00E088D08041 = .ioYReserved13 0x00E088D08041 ∧
    decode .c1 0x00E088E08041 = .ioYReserved14 0x00E088E08041 ∧
    decode .c1 0x00E008F08041 = .ioYReserved15 0x00E008F08041 := by decide

theorem test_decode_fx_rows :
    decode .c1 0x00E040008041 = .fxNOP { base with cin := true } ∧
    decode .c1 0x00E000018041 = .fxBusU { base with xz := .fn .busU .nop } ∧
    decode .c1 0x00E000028041 = .fxBusRH { base with xz := .fn .busRH .nop } ∧
    decode .c1 0x00E080038041 = .fxBusIB { base with ep := true, xz := .fn .busIB .nop } ∧
    decode .c1 0x00E000048041 = .fxBusIBNA { base with xz := .fn .busIBNA .nop } ∧
    decode .c1 0x00E080058041 = .fxBusIOP { base with ep := true, xz := .fn .busIOP .nop } ∧
    decode .c1 0x00E080068041 = .fxBusLink { base with ep := true, xz := .fn .busLink .nop } ∧
    decode .c1 0x00E000078041 = .fxBusErr { base with xz := .fn .busErr .nop } ∧
    decode .c1 0x00E000088041 = .fxRHWrite { base with xz := .fn .rhWrite .nop } ∧
    decode .c1 0x00E080098041 = .fxIBLoad { base with ep := true, xz := .fn .ibLoad .nop } ∧
    decode .c1 0x00E0800A8041 = .fxClrIntErr { base with ep := true, xz := .fn .clrIntErr .nop } := by decide

theorem test_decode_reserved_fx_and_fz_rows :
    decode .c1 0x00E0000B8041 = .fxReserved11 0x00E0000B8041 ∧
    decode .c1 0x00E0800C8041 = .fxReserved12 0x00E0800C8041 ∧
    decode .c1 0x00E0000D8041 = .fxReserved13 0x00E0000D8041 ∧
    decode .c1 0x00E0000E8041 = .fxReserved14 0x00E0000E8041 ∧
    decode .c1 0x00E0800F8041 = .fxReserved15 0x00E0800F8041 ∧
    decode .c1 0x00E00000C041 = .fzReserved12 0x00E00000C041 ∧
    decode .c1 0x00E08000D041 = .fzReserved13 0x00E08000D041 ∧
    decode .c1 0x00E08000E041 = .fzReserved14 0x00E08000E041 ∧
    decode .c1 0x00E00000F041 = .fzReserved15 0x00E00000F041 := by decide

theorem test_decode_fz_rows_and_literal :
    decode .c1 0x000000007041 = .fzLink { base with aS := .aq, xz := .fn .nop (.link 7) } ∧
    decode .c1 0x000000008041 = .fzNOP { base with aS := .aq } ∧
    decode .c1 0x00E0A0009041 = .fzPush { base with ep := true, enSU := true, xz := .fn .nop .push } ∧
    decode .c1 0x00E00000A041 = .fzPop { base with xz := .fn .nop .pop } ∧
    decode .c1 0x00E08000B041 = .fzPop2 { base with ep := true, xz := .fn .nop .pop2 } ∧
    decode .c1 0x00E0020BC041 = .lit { base with xz := .lit 0xBC } := by decide

theorem test_decode_io_rows_of_the_z_field :
    decode .c1 0x00E081000041 = .ioZNOP { base with ep := true, xz := .fn .nop (.io .nop) } ∧
    decode .c1 0x00E001001041 = .ioZIOPOData { base with xz := .fn .nop (.io .iopOData) } ∧
    decode .c1 0x00E001002041 = .ioZIOPCtl { base with xz := .fn .nop (.io .iopCtl) } ∧
    decode .c1 0x00E081003041 = .ioZDMADone { base with ep := true, xz := .fn .nop (.io .dmaDone) } := by decide

theorem test_decode_reserved_io_rows_of_the_z_field :
    decode .c1 0x00E001004041 = .ioZReserved4 0x00E001004041 ∧
    decode .c1 0x00E081005041 = .ioZReserved5 0x00E081005041 ∧
    decode .c1 0x00E081006041 = .ioZReserved6 0x00E081006041 ∧
    decode .c1 0x00E001007041 = .ioZReserved7 0x00E001007041 ∧
    decode .c1 0x00E001008041 = .ioZReserved8 0x00E001008041 ∧
    decode .c1 0x00E081009041 = .ioZReserved9 0x00E081009041 ∧
    decode .c1 0x00E08100A041 = .ioZReserved10 0x00E08100A041 ∧
    decode .c1 0x00E00100B041 = .ioZReserved11 0x00E00100B041 ∧
    decode .c1 0x00E08100C041 = .ioZReserved12 0x00E08100C041 ∧
    decode .c1 0x00E00100D041 = .ioZReserved13 0x00E00100D041 ∧
    decode .c1 0x00E00100E041 = .ioZReserved14 0x00E00100E041 ∧
    decode .c1 0x00E08100F041 = .ioZReserved15 0x00E08100F041 := by decide

theorem test_decode_invalid_rows :
    decode .c1 0x00E083008041 = .fszReserved3 0x00E083008041 ∧
    decode .c1 0x00E004A38041 = .invalidBusIBIBDisp 0x00E004A38041 ∧
    decode .c1 0x00E084B38041 = .invalidBusIBAlwaysIBDisp 0x00E084B38041 ∧
    decode .c1 0x00E084A48041 = .invalidBusIBNAIBDisp 0x00E084A48041 ∧
    decode .c1 0x00E004B48041 = .invalidBusIBNAAlwaysIBDisp 0x00E004B48041 := by decide

/-! ### One click of each family (spec/95, sections 2.1 to 2.10) -/

/-- What the outcome's next state shows; false for a fault or a refusal. -/
def leaves (o : Host.Outcome State Fault Refusal) (p : State → Bool) : Bool :=
  match o with
  | .next s => p s
  | .fault _ => false
  | .refused _ => false

/-- The outcome is this host fault. -/
def stopsWith (o : Host.Outcome State Fault Refusal) (f : Fault) : Bool :=
  match o with
  | .next _ => false
  | .fault g => decide (g = f)
  | .refused _ => false

/-- The start state of spec/95: reset, task 0 awake at 0x040, where the word is. -/
def loaded (w : ControlWord) : State :=
  { State.reset with
    wake := State.reset.wake.set .emulator true
    tpc := State.reset.tpc.set .emulator 0x040
    cs := [(0x040, w)] }

/-- A click with every input zero. -/
def click (s : State) : Host.Outcome State Fault Refusal := executeClick Inputs.zero s

/-- A click with `v` on the external bus. -/
def clickBus (v : Word) (s : State) : Host.Outcome State Fault Refusal :=
  executeClick { Inputs.zero with extBus := v } s

/-- The next address of task 0. -/
def pc (s : State) : CSAddr := s.tpc.emulator

/-- No flag is true. -/
def noFlags : Flags := ⟨false, false, false, false, false, false⟩

/-- A click of task 0 that has begun, after reset. -/
def begun : State := { State.reset with cur := some .emulator }

/-- The operands of spec/95, 2.2: A, B and Q, with 0x4000 on the bus. -/
def operands : State :=
  { begun with
    rf := (State.reset.rf.write 1 0x0011).write 2 0x0022
    q := ⟨0x0300, true⟩
    inp := { Inputs.zero with extBus := 0x4000 } }

/-- The word of spec/95, 2.2: rA = 1, rB = 2, ADD. -/
def pair : Microword := { plain with rA := 1, rB := 2 }

/-- Y after a click of an instruction on those operands. -/
def sumIs (i : Instr) (y : Word) : Bool := leaves (exec i operands) fun s => decide (s.ylatch = y)

theorem test_srcAQ : sumIs (.srcAQ pair) 0x0311 = true := by decide
theorem test_srcAB : sumIs (.srcAB pair) 0x0033 = true := by decide
theorem test_srcZQ : sumIs (.srcZQ pair) 0x0300 = true := by decide
theorem test_srcZB : sumIs (.srcZB pair) 0x0022 = true := by decide
theorem test_srcZA : sumIs (.srcZA pair) 0x0011 = true := by decide
theorem test_srcDA : sumIs (.srcDA pair) 0x4011 = true := by decide
theorem test_srcDQ : sumIs (.srcDQ pair) 0x4300 = true := by decide
theorem test_srcDZ : sumIs (.srcDZ pair) 0x4000 = true := by decide

/-- An ALU row on R (the bus) and S (A), spec/95, 2.1: F and the six flags. -/
def gives (i : Microword → Instr) (r v : Word) (c : Bool) (f : Word) (fl : Flags) : Bool :=
  leaves (exec (i { plain with aS := .da, cin := c })
    { begun with rf := State.reset.rf.write 0 v, inp := { Inputs.zero with extBus := r } }) fun s =>
      decide (s.ylatch = f ∧ s.flags = fl)

theorem test_aluADD_overflows :
    gives .aluADD 0x7FFF 0x0001 false 0x8000 { noFlags with n := true, nc := true, pgc := true, ovf := true } := by
  decide
theorem test_aluADD_wraps :
    gives .aluADD 0xFFFF 0x0001 false 0x0000 { noFlags with z := true, nc := true, pgc := true, co := true } := by
  decide
theorem test_aluSUBR :
    gives .aluSUBR 0x0003 0x0005 true 0x0002 { noFlags with nc := true, pgc := true, co := true } := by decide
theorem test_aluSUBR_borrows : gives .aluSUBR 0x0000 0x0000 false 0xFFFF { noFlags with n := true } := by decide
theorem test_aluSUBS : gives .aluSUBS 0x0003 0x0005 true 0xFFFE { noFlags with n := true } := by decide
theorem test_aluSUBS_overflows :
    gives .aluSUBS 0x8000 0x0001 true 0x7FFF { noFlags with co := true, ovf := true } := by decide
theorem test_aluOR :
    gives .aluOR 0x1234 0x00F0 false 0x12F4 { noFlags with nc := true, pgc := true, co := true, ovf := true } := by
  decide
theorem test_aluAND :
    gives .aluAND 0x1234 0x00F0 false 0x0030 { noFlags with pgc := true, co := true, ovf := true } := by decide
theorem test_aluAND_zero : gives .aluAND 0x0000 0x0000 false 0x0000 { noFlags with z := true } := by decide
theorem test_aluNOTRS :
    gives .aluNOTRS 0x00F0 0x1234 false 0x1204
      { noFlags with nc := true, pgc := true, co := true, ovf := true } := by decide
theorem test_aluEXOR : gives .aluEXOR 0x1234 0x00F0 false 0x12C4 { noFlags with nc := true, co := true } := by decide
theorem test_aluEXOR_carry :
    gives .aluEXOR 0x5555 0x5555 true 0x0000 { noFlags with z := true, nc := true, pgc := true, co := true } := by
  decide
theorem test_aluEXNOR :
    gives .aluEXNOR 0x1234 0x00F0 false 0xED3B { noFlags with n := true, nc := true, co := true } := by decide

/-- The inputs of spec/95, 2.3: F = 0x8001, A = 0x0007, Q = 0x4002. -/
def shifting : State :=
  { begun with
    rf := State.reset.rf.write 1 0x0007
    q := ⟨0x4002, true⟩
    inp := { Inputs.zero with extBus := 0x8001 } }

/-- Y, RF[2] and Q after a click. -/
def stores (i : Instr) (y b q : Word) : Bool :=
  leaves (exec i shifting) fun s => decide (s.ylatch = y ∧ s.rf.read 2 = b ∧ s.q.val = q)

/-- The same word with the cycle bit. -/
def cycled : Microword := { pair with y := .fy .cycle }

theorem test_destQREG : stores (.destQREG pair) 0x8001 0 0x8001 = true := by decide
theorem test_destNOP : stores (.destNOP pair) 0x8001 0 0x4002 = true := by decide
theorem test_destRAMA : stores (.destRAMA pair) 0x0007 0x8001 0x4002 = true := by decide
theorem test_destRAMF : stores (.destRAMF pair) 0x8001 0x8001 0x4002 = true := by decide
theorem test_destRAMQD : stores (.destRAMQD pair) 0x8001 0x4000 0xA001 = true := by decide
theorem test_destRAMQD_cycle : stores (.destRAMQD cycled) 0x8001 0x4000 0xA001 = true := by decide
theorem test_destRAMD : stores (.destRAMD pair) 0x8001 0x4000 0x4002 = true := by decide
theorem test_destRAMD_cycle : stores (.destRAMD cycled) 0x8001 0xC000 0x4002 = true := by decide
theorem test_destRAMQU : stores (.destRAMQU pair) 0x8001 0x0002 0x8004 = true := by decide
theorem test_destRAMQU_cycle : stores (.destRAMQU cycled) 0x8001 0x0002 0x8005 = true := by decide
theorem test_destRAMU : stores (.destRAMU pair) 0x8001 0x0002 0x4002 = true := by decide
theorem test_destRAMU_cycle : stores (.destRAMU cycled) 0x8001 0x0003 0x4002 = true := by decide

theorem test_fyQOp :
    leaves (click (loaded 0x00E002142041))
      (fun s => decide (s.q.val = 0x0042 ∧ s.ylatch = 0x0042 ∧ pc s = 0x041)) := by
  decide
theorem test_fyCycle :
    leaves (clickBus 0x8001 (loaded 0x01E380208041)) (fun s =>
      decide (s.rf.read 1 = 0x0003 ∧ s.ylatch = 0x8001 ∧ s.flags = { noFlags with n := true })) := by decide
theorem test_fyQCycle :
    leaves (clickBus 0x0003 { loaded 0x01E280308041 with q := ⟨1, true⟩ }) (fun s =>
      decide (s.rf.read 1 = 0x8001 ∧ s.q.val = 0x8000 ∧ s.ylatch = 0x0003)) := by decide
theorem test_lit : leaves (click (loaded 0x01E1820A5041)) (fun s => decide (s.rf.read 1 = 0x00A5)) := by decide
theorem test_fxBusU :
    leaves (click { loaded 0x35E080118041 with u := State.reset.u.write 0x35 0x1111 }) (fun s =>
      decide (s.q.val = 0x1111)) := by decide
theorem test_fxBusRH :
    leaves (click { loaded 0x46E100028041 with rh := State.reset.rh.write 4 0x7F }) (fun s =>
      decide (s.rf.read 6 = 0x007F)) := by decide
theorem test_fxBusIB :
    leaves (click { loaded 0x01E180038041 with ib := [0x12, 0x34] }) (fun s =>
      decide (s.rf.read 1 = 0x0012 ∧ s.ib = [0x34])) := by decide
theorem test_fxBusIB_empty :
    leaves (click { loaded 0x01E110038041 with phase := .c2 }) (fun s =>
      decide (s.trap = ⟨8, true⟩ ∧ s.ib = [] ∧ s.event = none)) := by decide
theorem test_fxBusIBNA :
    leaves (click { loaded 0x01E100048041 with ib := [0x12] }) (fun s =>
      decide (s.rf.read 1 = 0x0012 ∧ s.ib = [0x12])) := by decide
theorem test_fxBusIOP :
    leaves (click { loaded 0x01E180058041 with io := { State.reset.io with iopToCp := 0x5A, iopReq := true } })
      (fun s => decide (s.rf.read 1 = 0x005A ∧ s.io.iopReq = false)) := by decide
theorem test_fxBusLink :
    leaves (click { loaded 0x01E180068041 with link := State.reset.link.set .emulator 9 }) (fun s =>
      decide (s.rf.read 1 = 0x0009)) := by decide
theorem test_fxBusErr :
    leaves (click { loaded 0x01E100078041 with trap := ⟨6, true⟩ }) (fun s =>
      decide (s.rf.read 1 = 0x0001 ∧ s.trap = ⟨6, true⟩)) := by decide
theorem test_fxBusErr_none : leaves (click (loaded 0x01E100078041)) (fun s => decide (s.rf.read 1 = 4)) := by decide
theorem test_fxRHWrite :
    leaves (clickBus 0x12AB { loaded 0x22E090088041 with rh := State.reset.rh.write 2 1 }) (fun s =>
      decide (s.rh.read 2 = 0xAB ∧ s.event = some (.latch 0x0112AB false))) := by decide
theorem test_fxIBLoad :
    leaves (clickBus 0x0102 { loaded 0x00E080098041 with ib := [0x01] }) (fun s => decide (s.ib = [0x01, 0x02])) := by
  decide
theorem test_fxIBLoad_full :
    stopsWith (clickBus 0x0102 { loaded 0x00E080098041 with ib := [1, 2, 3] }) .ibOverflow := by decide
theorem test_fxClrIntErr :
    leaves (click { loaded 0x00E0000AA041 with trap := ⟨2, true⟩ }) (fun s =>
      decide (s.trap = ⟨4, true⟩ ∧ s.stackP = 15)) := by decide
theorem test_fyBlock :
    leaves (click (loaded 0x00E080408010)) (fun s => decide (s.wake.emulator = false ∧ pc s = 0x010)) := by decide
theorem test_fyBlock_device :
    leaves (executeClick { Inputs.zero with wakeDisplay := true }
      { loaded 0x00E000408041 with wake := PerTask.all false, tpc := State.reset.tpc.set .display 0x040 })
      (fun s => decide (s.cur = some .display ∧ s.tpc.display = 0x041 ∧ s.wake.display = true)) := by decide
theorem test_fyMap :
    leaves (clickBus 0x2345 { loaded 0x20E090508041 with rh := State.reset.rh.write 2 1 }) (fun s =>
      decide (s.event = some (.latch 0x012345 true))) := by decide
theorem test_fyMap_c2 :
    leaves (clickBus 0x2345 { loaded 0x20E090508041 with phase := .c2 }) (fun s =>
      decide (s.event = some (.write 0x2345))) := by decide
theorem test_fzPush_wraps :
    leaves (clickBus 0x1234 { loaded 0x00E0A0009041 with stackP := 15 }) (fun s =>
      decide (s.u.read 0 = 0x1234 ∧ s.stackP = 0 ∧ s.trap = ⟨4, true⟩)) := by decide
theorem test_fzPop :
    leaves (click { loaded 0x03E10001A041 with stackP := 1, u := State.reset.u.write 1 0x1234 }) (fun s =>
      decide (s.rf.read 3 = 0x1234 ∧ s.stackP = 0 ∧ s.trap = ⟨0, false⟩)) := by decide
theorem test_fzPop_underflows :
    leaves (click (loaded 0x00E00000A041)) (fun s => decide (s.stackP = 15 ∧ s.trap = ⟨4, true⟩)) := by decide
theorem test_fzPop2 :
    leaves (click { loaded 0x00E08000B041 with stackP := 3 }) (fun s =>
      decide (s.stackP = 1 ∧ s.trap = ⟨0, false⟩)) := by decide
theorem test_fzPop2_underflows :
    leaves (click { loaded 0x00E08000B041 with stackP := 1 }) (fun s =>
      decide (s.stackP = 15 ∧ s.trap = ⟨4, true⟩)) := by decide
theorem test_enSU :
    leaves (clickBus 0xBEEF (loaded 0xABE0A0008041)) (fun s => decide (s.u.read 0xAB = 0xBEEF)) := by decide
theorem test_fzLink_writes :
    leaves (click (loaded 0x00E08000712C)) (fun s => decide (pc s = 0x12C ∧ s.link.emulator = 0xC)) := by decide
theorem test_fzLink_merges :
    leaves (click { loaded 0x00E080000850 with link := State.reset.link.set .emulator 3 }) (fun s =>
      decide (pc s = 0x853 ∧ s.link.emulator = 3)) := by decide
theorem test_ioYNOP :
    leaves (click (loaded 0x00E0880000A5)) (fun s => decide (pc s = 0x0A5 ∧ s.link.emulator = 5)) := by decide
theorem test_ioYIOPOData :
    leaves (clickBus 0x0C3C (loaded 0x00E088108041)) (fun s =>
      decide (s.io.cpToIop = 0x3C ∧ s.io.cpAck = true)) := by decide
theorem test_ioYIOPCtl :
    leaves (click (loaded 0x00E00A251041)) (fun s => decide (s.io.wakeMode.iop = .input)) := by decide
theorem test_ioZDMADone : leaves (click (loaded 0x00E081003041)) (fun s => s.io.dmaComplete) := by decide
theorem test_ioYDMADone : leaves (exec (.ioYDMADone plain) begun) (fun s => s.io.dmaComplete) := by decide
theorem test_ioZIOPOData :
    leaves (exec (.ioZIOPOData plain) { begun with inp := { Inputs.zero with extBus := 0x0C3C } }) (fun s =>
      decide (s.io.cpToIop = 0x3C ∧ s.io.cpAck = true)) := by decide
theorem test_ioZIOPCtl :
    leaves (clickBus 0x0073 (loaded 0x00E009102041)) (fun s =>
      decide (s.io.cpToIop = 0x73 ∧ s.io.cpAck = true ∧ s.io.wakeMode.kernel = .always)) := by decide
theorem test_bdNegBr : leaves (clickBus 0x8000 (loaded 0x00E084008400)) (fun s => decide (pc s = 0x401)) := by decide
theorem test_bdNegBr_odd : leaves (click (loaded 0x00E004008401)) (fun s => decide (pc s = 0x401)) := by decide
theorem test_bdZeroBr : leaves (click (loaded 0x00E004108400)) (fun s => decide (pc s = 0x401)) := by decide
theorem test_bdZeroBr_no : leaves (clickBus 1 (loaded 0x00E004108400)) (fun s => decide (pc s = 0x400)) := by decide
theorem test_bdNZeroBr : leaves (clickBus 1 (loaded 0x00E004208400)) (fun s => decide (pc s = 0x401)) := by decide
theorem test_bdIntBr :
    leaves (click { loaded 0x00E084308400 with trap := ⟨0, true⟩ }) (fun s =>
      decide (pc s = 0x401 ∧ s.trap = ⟨0, true⟩)) := by decide
theorem test_bdPgCarryBr :
    leaves (click { loaded 0x10A006401300 with rf := State.reset.rf.write 1 0x00FF }) (fun s =>
      decide (pc s = 0x301 ∧ s.flags = { noFlags with nc := true, pgc := true })) := by decide
theorem test_bdCarryBr :
    leaves (click { loaded 0x10A086501300 with rf := State.reset.rf.write 1 0xFFFF }) (fun s =>
      decide (pc s = 0x301)) := by decide
theorem test_bdXRefBr :
    leaves (executeClick { Inputs.zero with xRef := true } (loaded 0x00E084608400)) (fun s =>
      decide (pc s = 0x401)) := by decide
theorem test_bdNibCarryBr :
    leaves (click { loaded 0x10A046700300 with rf := State.reset.rf.write 1 0x000F }) (fun s =>
      decide (pc s = 0x301 ∧ s.flags = { noFlags with nc := true })) := by decide
theorem test_bdYDisp : leaves (clickBus 0x1237 (loaded 0x00E004808400)) (fun s => decide (pc s = 0x407)) := by decide
theorem test_bdYIODisp :
    leaves (click { loaded 0x00E084908400 with io := { State.reset.io with iopReq := true } }) (fun s =>
      decide (pc s = 0x402)) := by decide
theorem test_bdIBDisp :
    leaves (click { loaded 0x00E084A08400 with ib := [0x2A, 0x05] }) (fun s =>
      decide (pc s = 0x42A ∧ s.ib = [0x05])) := by decide
theorem test_bdIBDisp_cancelled :
    leaves (click { loaded 0x00E084A08400 with ib := [0x2A], pageCross := true }) (fun s =>
      decide (pc s = 0x400 ∧ s.ib = [0x2A] ∧ s.pageCross = false ∧ s.trap = ⟨0, false⟩)) := by decide
theorem test_bdAlwaysIBDisp :
    leaves (click { loaded 0x00E004B08400 with ib := [0x07] }) (fun s => decide (pc s = 0x407 ∧ s.ib = [])) := by
  decide
theorem test_bdAlwaysIBDisp_empty :
    leaves (click (loaded 0x00E004B08400)) (fun s => decide (pc s = 0x400 ∧ s.trap = ⟨0, false⟩)) := by decide
theorem test_bdIBPtrDisp :
    leaves (click { loaded 0x00E084C08400 with ib := [1, 2, 3] }) (fun s =>
      decide (pc s = 0x403 ∧ s.ib = [1, 2, 3])) := by decide
theorem test_memLatch :
    leaves (click { loaded 0x22A016A01400 with
      rh := State.reset.rh.write 2 1, rf := State.reset.rf.write 2 0x01FF, ib := [0x11] }) (fun s =>
      decide (s.event = some (.latch 0x010200 false) ∧ s.pageCross = true ∧ pc s = 0x400 ∧ s.ib = [0x11])) := by
  decide
theorem test_memWrite :
    leaves (clickBus 0xCAFE { loaded 0x00E010008041 with phase := .c2 }) (fun s =>
      decide (s.event = some (.write 0xCAFE))) := by decide
theorem test_memWrite_cancelled :
    leaves (executeClick { Inputs.zero with memErr := true }
      { loaded 0x00E010008041 with phase := .c2, pageCross := true }) (fun s =>
      decide (s.event = none ∧ s.pageCross = false ∧ s.trap = ⟨0, false⟩)) := by decide
theorem test_memRead :
    leaves (executeClick { Inputs.zero with extBus := 0x5A5A, memErr := true }
      { loaded 0x05E190008041 with phase := .c3 }) (fun s =>
      decide (s.event = some .read ∧ s.rf.read 5 = 0x5A5A ∧ s.trap = ⟨2, true⟩)) := by decide
theorem test_microword_parity :
    leaves (click (loaded 0x00E000008041)) (fun s => decide (pc s = 0x041 ∧ s.trap = ⟨1, true⟩)) := by decide

/-- The words of spec/95, 2.10, one for each clause of 30 R132 and one for R133. -/
theorem test_invalid_words :
    ([0x00E08C008041, 0x00E083008041, 0x00E080608041, 0x00E080F08041, 0x00E084D08041, 0x00E088408041,
      0x00E0000B8041, 0x00E00000C041, 0x00E001004041, 0x00E004B48041].all fun w =>
        stopsWith (click (loaded w)) .invalidControlWord) = true := by decide

/-! ### The engine and the host (spec/95, 2.11 and 2.12) -/

theorem test_idle_click :
    leaves (click { State.reset with pageCross := true }) (fun s =>
      decide (s.cur = none ∧ s.pageCross = false ∧ s.phase = .c2)) := by decide
theorem test_output_mode_wakes :
    leaves (click { State.reset with
      io := { State.reset.io with wakeMode := State.reset.io.wakeMode.set .iopcs .output }
      cs := [(0, 0x00E000008010)] })
      (fun s => decide (s.cur = some .iopcs)) := by decide
theorem test_unloaded_word :
    stopsWith (click { State.reset with wake := State.reset.wake.set .emulator true }) .csUnloaded := by decide
theorem test_setWake_device : stopsWith (setWake 1 true State.reset) .badTask := by decide
theorem test_writeCS_range : stopsWith (writeCS 4096 0 State.reset) .badAddress := by decide
theorem test_port_status :
    leaves (portRead 0xEC
      { State.reset with io := { State.reset.io with cpAck := true, iopReq := true, dmaMode := true } })
      (fun s => decide (s.reply = some 0x0B)) := by decide
theorem test_port_tpc :
    leaves (portWrite 0xFF 0x01 { State.reset with tpcSel := 5, tpcHi := 5 }) (fun s =>
      decide (s.tpc.iop = 0x501)) := by decide
theorem test_port_slot_f :
    leaves (portWrite 0xFD 0x10 { State.reset with
      tpc := State.reset.tpc.set .iopcs 0x010
      csStage := ⟨#[0x00, 0xE0, 0x00, 0x00, 0x80, 0x00], rfl⟩ }) (fun s =>
      decide (s.cs = [(0x010, 0x00E000008010)])) := by decide
theorem test_port_outside : stopsWith (portRead 0xEE State.reset) .portOutsideCore := by decide

/-! ### The parameters at other values -/

/-- Two stored tasks awake on a machine whose TASK_PRIORITY is the reverse of the default (45 R352). -/
def othersFirst : State :=
  { State.reset with
    wake := (State.reset.wake.set .emulator true).set .kernel true
    params := { Config.defaults with taskPriority := Task.inOrder.reverse } }

/-- 45 R352: the first awake task of the order is selected, whichever it is. -/
theorem test_taskPriority :
    (beginClick Inputs.zero othersFirst).cur = some .kernel ∧
      (beginClick Inputs.zero { othersFirst with params := Config.defaults }).cur = some .emulator := by decide

/-- 30 R136: a word with an odd count of ones fails under Even, and no word fails under Off. -/
theorem test_parityMode :
    leaves (click { loaded 0x00E080008041 with params := { Config.defaults with parityMode := .even } })
        (fun s => decide (s.trap = ⟨1, true⟩)) = true ∧
      leaves (click { loaded 0x00E000008041 with params := { Config.defaults with parityMode := .off } })
        (fun s => decide (s.trap = ⟨0, false⟩)) = true := by decide

/-- 95, IBLoad on a Full buffer: under IB_OVERFLOW = Discard the IB is unchanged. -/
theorem test_ibOverflow_discard :
    leaves (click { loaded 0x00E080098041 with
        ib := [1, 2, 3], params := { Config.defaults with ibOverflow := .discard } })
      (fun s => decide (s.ib = [1, 2, 3])) = true := by decide

/-- 40 R189: tables of a machine of its own, which carry and overflow at `{r, s, c} = {1, 2, 0}` only, give the flags
of an OR and leave its F, Z and N. -/
theorem test_logicCarry_tables :
    let one : NibbleRows := (Vector.replicate 512 (false, false)).set 36 (true, true)
    let lc : LogicCarry := .tables ⟨one, one, one, one, one⟩
    aluFlags lc .or 0x0001 0x0002 false = ⟨false, false, true, false, false, false⟩ ∧
      aluFlags lc .or 0x1000 0x2000 false = ⟨false, false, false, false, true, true⟩ ∧
      aluFlags lc .add 0x0001 0x0002 false = noFlags := by decide

/-! ### Witnesses: for each statement with hypotheses, a state and operands that meet them -/

/-- A condition on the next state of an instruction, at a concrete state. -/
def meets (i : Instr) (s : State) (p : State → Bool) : Bool := leaves (exec i s) p

theorem next_of_meets {i : Instr} {s : State} {p : State → Bool} (h : meets i s p = true) :
    ∃ s', exec i s = .next s' ∧ p s' = true := by
  unfold meets leaves at h
  split at h
  · exact ⟨_, by assumption, h⟩
  · exact absurd h (by decide)
  · exact absurd h (by decide)

/-- The state with three bytes in the IB. -/
def fullIB : State := { begun with ib := [1, 2, 3] }

theorem witness_DecodeOfEncodeDenotesTheSameWord :
    (Instr.destRAMD { plain with aD := .down }).wf = true ∧ (Instr.ioZReserved15 0x00E00100F041).wf = true := by
  decide

theorem witness_DecodeOfEncodeIsTheInstruction :
    [.bdIBDisp { plain with y := .bd .ibDisp }, .ioYNOP { plain with y := .io .nop },
      .fyBlock { plain with y := .fy .block }, .fyMap { plain with y := .fy .map },
      .fxBusIB { plain with xz := .fn .busIB .nop }, .lit { plain with xz := .lit 0xFF }].all
        (fun i : Instr => i.wf && namesItsWord i) = true := by decide

theorem witness_InvalidWordsAreThoseOfTheRuleAndFault :
    let bad := loaded 0x00E08C008041
    let good := loaded 0x00E080008041
    (beginClick Inputs.zero bad).cur = some .emulator ∧
      bad.cs.read (bad.tpc.get .emulator).toNat = some 0x00E08C008041 ∧
      (beginClick Inputs.zero good).cur = some .emulator ∧
      good.cs.read (good.tpc.get .emulator).toNat = some 0x00E080008041 :=
  ⟨rfl, rfl, rfl, rfl⟩

theorem witness_ReservedRowsFault : (Instr.fsyReserved3 0x00E08C008041).body = .invalid 0x00E08C008041 := by decide

/-- A literal word and a word of each boundary code of the five code fields. -/
theorem witness_DerivedValuesAreFunctionsOfTheBits :
    [0x00E002142041, 0x00E080508041, 0x00E084C08400, 0x00E08000B041, 0x00E080007041, 0x00E0800A8041].all
      (fun w => (decodeMicroword w).isSome) = true := by decide

theorem witness_SourceRowsPickTheirOperands :
    begun.cur = some .emulator ∧
    ([.aq, .ab, .zq, .zb, .za, .da, .dq, .dz].all fun p => completes (plain.asSrc p) .emulator begun) = true := by
  decide

theorem witness_FunctionRowsGiveTheirResultAndFlags :
    begun.cur = some .emulator ∧
    ([.add, .subr, .subs, .or, .and, .notrs, .exor, .exnor].all fun f =>
      completes (plain.asAlu f) .emulator begun) = true := by decide

/-- Two words and two states with the same operands, and different other fields and flags. -/
theorem witness_AluCarriesNoHiddenHistory :
    let n : Microword := { plain with aS := .za, rA := 2, inia := 0x7FF }
    let s' : State := { begun with flags := { noFlags with co := true }, phase := .c3 }
    operandR plain .emulator begun = operandR n .disk s' ∧ operandS plain begun = operandS n s' ∧
      plain.aF = n.aF ∧ plain.cin = n.cin ∧ begun.params.logicCarry = s'.params.logicCarry ∧ plain.dest = n.dest ∧
      begun.rf.read plain.rA = s'.rf.read n.rA := by
  decide

theorem witness_DestinationRowsWriteTheirRegisters :
    ([.none, .ram, .down, .up].all fun d => [plain, cycled].all fun o =>
      completes (o.asDest d) .emulator begun && completes (o.asDestQ d) .emulator begun) = true ∧
    plain.cycle = false ∧ cycled.cycle = true := by decide

theorem witness_CycleRowRotates :
    [{ plain with aD := .down }, { plain with aD := .up }, { plain with aD := .up, y := .fy .qOp },
      { plain with aD := .down, y := .fy .qOp }, { plain with aD := .ram }, plain].all (fun o : Microword =>
        completes o.asCycle .emulator begun) = true ∧ plain.qSel = false ∧
      ({ plain with y := .fy .qOp } : Microword).qSel = true := by decide

theorem witness_FYRowsChooseTheDestination :
    ([.nop, .qOp, .cycle, .qCycle].all fun f => [.none, .ram, .down, .up].all fun d =>
      completes (({ plain with aD := d } : Microword).asFY f) .emulator begun) = true := by decide

theorem witness_BusRowsDriveTheDataBus :
    begun.cur = some .emulator ∧ plain.isBD = false ∧ begun.trap.errPending = 0 ∧
      ({ begun with trap := ⟨8, true⟩ } : State).trap.errPending.getLsbD 3 = true := by decide

theorem witness_IBReadRowsReadTheFrontByte :
    plain.y ≠ .bd .ibDisp ∧ plain.y ≠ .bd .alwaysIBDisp ∧ begun.ib = [] ∧ fullIB.ib = 1 :: [2, 3] ∧
      ({ begun with phase := .c3 } : State).phase ≠ .c1 := by decide

/-- Room at the boundary: two bytes; three bytes of which a dispatch takes one; and three bytes without. -/
theorem witness_IBLoadAppendsOrOverflows :
    let dispatch : Microword := { plain with y := .bd .ibDisp }
    fullIB.cur = some .emulator ∧ ({ begun with ib := [1, 2] } : State).ib.length < 3 ∧
      ((dispatch.y = .bd .ibDisp ∨ dispatch.y = .bd .alwaysIBDisp) ∧
        cancelled (dispatch.asFX .ibLoad) .emulator fullIB = false) ∧ fullIB.ib.tail.length < 3 ∧
      3 ≤ fullIB.ib.length ∧ fullIB.params.ibOverflow = .fault ∧
      ({ fullIB with params := { Config.defaults with ibOverflow := .discard } } : State).params.ibOverflow =
        .discard := by decide

theorem witness_RHWriteAndClrIntErr :
    ({ plain with mem := true } : Microword).mem = true ∧ begun.phase = .c1 ∧ begun.cur = some .emulator ∧
      trapsRaised (plain.asFX .clrIntErr) .emulator begun = 0 ∧
      trapsRaised (base.asFX .clrIntErr) .emulator begun ≠ 0 := by decide

theorem witness_LiteralRowRunsNoXOrZFunction :
    ({ plain with xz := .lit 0xFF } : Microword).xz = .lit 0xFF ∧ plain.isBD = false ∧
      plain.y = .fy .nop ∧ begun.cur = some .emulator := by decide

theorem witness_SUEnableWritesAtTheUAddress :
    ([.nop, .push, .pop, .pop2].all fun z =>
      completes (({ plain with xz := .fn .busU z } : Microword).asEnSU) .emulator begun) = true := by decide

/-- Each stack row at both sides of its boundary. -/
theorem witness_StackRowsMoveThePointer :
    ([0, 1, 2, 15].all fun sp => [.nop, .push, .pop, .pop2].all fun z =>
      completes (({ plain with enSU := true, xz := .fn .busU .nop } : Microword).asZ z) .emulator
        { begun with stackP := sp }) = true := by decide

theorem witness_IORowsOfTheYField :
    ([.nop, .iopOData, .iopCtl, .dmaDone].all fun f => completes (plain.asIOY f) .emulator begun) = true ∧
      plain.xz.z? = some .nop ∧ plain.xz.x? = some .nop := by decide

theorem witness_IORowsOfTheZField :
    ([.nop, .iopOData, .iopCtl, .dmaDone].all fun f => completes (plain.asZ (.io f)) .emulator begun) = true ∧
      plain.y = .fy .nop ∧ plain.xz.x? = some .nop := by decide

theorem witness_BlockClearsAStoredWakeup :
    ([.emulator, .display, .disk, .iop, .kernel].all fun t =>
      completes (plain.asFY .block) t { begun with cur := some t }) = true := by decide

theorem witness_MapOnlyMarksTheLatch :
    let o : Microword := { plain with mem := true }
    completes (o.asFY .map) .emulator begun = true ∧ o.mem = true ∧ begun.phase = .c1 ∧
      completes (plain.asFY .map) .emulator begun = true ∧ plain.mem = false := by decide

theorem witness_BranchRowsOrTheConditionIntoINIA :
    ([.negBr, .zeroBr, .nZeroBr, .intBr, .pgCarryBr, .carryBr, .xRefBr, .nibCarryBr].all fun f =>
      completes (plain.asBD f) .emulator begun) = true := by decide

/-- IBPtrDisp at each length of the IB. -/
theorem witness_IndexDispatchRowsOrTheirIndexIntoINIA :
    ([.yDisp, .yIODisp, .ibPtrDisp].all fun f => [[], [1], [1, 2], [1, 2, 3]].all fun q =>
      completes (plain.asBD f) .emulator { begun with ib := q }) = true := by decide

/-- Both dispatches complete on an Empty and on a Full buffer, with and without a page cross. -/
theorem witness_BufferDispatchRowsConsumeTheFrontByte :
    let cross : State := { fullIB with pageCross := true }
    ([.ibDisp, .alwaysIBDisp].all fun f => [begun, fullIB, cross].all fun s =>
      completes (plain.asBD f) .emulator s) = true ∧
    ([.bdIBDisp plain, .bdAlwaysIBDisp plain].all fun i =>
      meets i fullIB (fun s' => !pageCancel plain fullIB s') && meets i cross (pageCancel plain cross)) = true := by
  decide

theorem witness_LinkRowWritesOrMerges :
    let merge : Microword := { plain with inia := 0x800 }
    let branch : Microword := { plain with y := .bd .zeroBr }
    let high : Microword := { branch with inia := 0x800 }
    ([plain, merge, branch, high].all fun o => completes o.asLink .emulator begun) = true ∧ plain.isBD = false ∧
      plain.inia.getLsbD 11 = false ∧ merge.isBD = false ∧ merge.inia.getLsbD 11 = true ∧ branch.isBD = true ∧
      high.isBD = true ∧ high.inia.getLsbD 11 = true := by
  decide

/-- The hypotheses of the statements about every word that completes: a word, a current task, a next state. -/
theorem witness_NextAddressIsINIAUnlessAFunctionChangesIt :
    (Instr.microword plain).body = .word plain ∧ begun.cur = some .emulator ∧ plain.isBD = false ∧
      plain.xz.z? = some .nop ∧ begun.ib.length ≤ 3 ∧ ∃ s', exec (.microword plain) begun = .next s' :=
  ⟨rfl, rfl, rfl, rfl, by decide, _, rfl⟩

theorem witness_MemoryRowsEmitTheEventOfThePhase :
    ([.c1, .c2, .c3].all fun p => completes plain.asMem .emulator { begun with phase := p }) = true ∧
      begun.pageCross = false ∧ ({ begun with pageCross := true } : State).pageCross = true := by decide

theorem witness_NoMemoryPhaseNoEventNoPageCross :
    let o : Microword := { plain with mem := true }
    (Instr.memLatch o).body = .word o ∧ (Instr.srcDZ plain).body = .word plain ∧
      (∃ s', exec (.memLatch o) begun = .next s') ∧ ∃ s', exec (.srcDZ plain) begun = .next s' :=
  ⟨rfl, rfl, ⟨_, rfl⟩, _, rfl⟩

theorem witness_PageCrossCancelsNothingElse :
    let o : Microword := { plain with mem := true }
    (Instr.memWrite o).body = .word o ∧
      (∃ p, exec (.memWrite o) { { begun with phase := .c2 } with pageCross := false } = .next p) ∧
      (∃ q, exec (.memWrite o) { { begun with phase := .c2 } with pageCross := true } = .next q) ∧
      (∃ p, exec (.memLatch o) { begun with pageCross := false } = .next p) ∧
      ∃ q, exec (.memLatch o) { begun with pageCross := true } = .next q :=
  ⟨rfl, ⟨_, rfl⟩, ⟨_, rfl⟩, ⟨_, rfl⟩, _, rfl⟩

/-- All four causes at once: even parity, memErr in c3, a Pop at 0; and BusIB on an Empty buffer. -/
theorem witness_TrapsAreAddedAfterTheClear :
    let o : Microword := { base with mem := true, xz := .fn .nop .pop }
    let s : State := { begun with phase := .c3, inp := { Inputs.zero with memErr := true } }
    (Instr.fzPop o).body = .word o ∧ s.cur = some .emulator ∧
      (∃ s', exec (.fzPop o) s = .next s' ∧ s'.trap.errPending = 7) ∧
      ∃ s', exec (.fxBusIB { plain with xz := .fn .busIB .nop }) begun = .next s' :=
  ⟨rfl, rfl, ⟨_, rfl, by decide⟩, _, rfl⟩

theorem witness_TrapRegisterChangesNothingElse :
    (Instr.microword plain).body = .word plain ∧ plain.xz.x? ≠ some .busErr ∧ plain.y ≠ .bd .intBr ∧
      (∃ s', exec (.microword plain) begun = .next s') ∧
      exec (.fxIBLoad plain) fullIB = .fault .ibOverflow :=
  ⟨rfl, by decide, by decide, ⟨_, rfl⟩, rfl⟩

/-- The three outcomes: a word that completes with the IB at its limit, two IB reads, no room; and the idle case. -/
theorem witness_EveryValidWordCompletes :
    completes (plain.asFX .ibLoad) .emulator { begun with ib := [1, 2] } = true ∧
      completes (({ plain with y := .bd .ibDisp } : Microword).asFX .ibLoad) .emulator fullIB = true ∧
      twoReads.oneIBRead = false ∧ (plain.asFX .ibLoad).oneIBRead = true ∧
      completes (plain.asFX .ibLoad) .emulator fullIB = false ∧
      completes (plain.asFX .ibLoad) .emulator
        { fullIB with params := { Config.defaults with ibOverflow := .discard } } = true ∧ begun.cur = some .emulator ∧
      State.reset.cur = none := by decide

theorem witness_WhatAWordLeavesUnchanged :
    (Instr.microword plain).body = .word plain ∧ begun.cur = some .emulator ∧ plain.dest = .nop ∧
      plain.enSU = false ∧ plain.xz.x? = some .nop ∧ plain.xz.z? = some .nop ∧ plain.y = .fy .nop ∧
      ∃ s', exec (.microword plain) begun = .next s' :=
  ⟨rfl, rfl, rfl, rfl, rfl, rfl, rfl, _, rfl⟩

/-- The start state of spec/95 with one click on the agenda. -/
def queued (w : ControlWord) : State := { loaded w with agenda := [.executeClick Inputs.zero] }

/-- A click from the agenda, a click with free inputs, and an unloaded word. -/
theorem witness_StepRunsTheDecodedInstruction :
    (queued 0x00E080408010).agenda = .executeClick Inputs.zero :: [] ∧
      (loaded 0x00E080408010).agenda = [] ∧
      (beginClick Inputs.zero (loaded 0x00E080408010)).cur = some .emulator ∧
      (beginClick (Config.freeInputs 0) (loaded 0x00E080408010)).cur = some .emulator ∧
      (Instr.fyBlock { plain with y := .fy .block, inia := 0x010 }).wf = true ∧
      (queued 0x00E080408010).cs.read 0x040 =
        some (encode (.fyBlock { plain with y := .fy .block, inia := 0x010 })) ∧
      decode .c1 0x00E080408010 = .fyBlock { plain with y := .fy .block, inia := 0x010 } ∧
      (queued 0x00E080408010).cs.read 0x041 = none :=
  ⟨rfl, rfl, rfl, rfl, rfl, rfl, rfl, rfl⟩

theorem witness_StepRunsEveryEncodedInstruction :
    let i : Instr := .srcDA { plain with aS := .da }
    let s := queued (encode i)
    s.agenda = .executeClick Inputs.zero :: [] ∧ i.wf = true ∧
      (beginClick Inputs.zero { s with agenda := [] }).cur = some .emulator ∧
      s.cs.read (s.tpc.get .emulator).toNat = some (encode i) :=
  ⟨rfl, rfl, rfl, rfl⟩

theorem witness_PlacedWordIsRunByTheNextStep :
    State.reset.params.wf = true ∧ othersFirst.params.wf = true ∧ (0xFFFFFFFFFFFF : Nat) < 2 ^ 48 := by decide

/-- A click with a task awake and an idle one. -/
theorem witness_SelectionTakesTheFirstAwakeTask :
    (∃ s', executeClick Inputs.zero (loaded 0x00E080008041) = .next s') ∧
      (∃ s', executeClick Inputs.zero State.reset = .next s') ∧ State.reset.params.wf = true ∧
      State.reset.params.taskPriority = [0, 1, 2, 3, 4, 5, 6, 7].map taskOfCode :=
  ⟨⟨_, rfl⟩, ⟨_, rfl⟩, rfl, rfl⟩

theorem witness_DeviceWakesAreTheSampledInputs :
    (∃ s', executeClick Inputs.zero (loaded 0x00E080408010) = .next s') ∧
      (∃ s', executeClick Inputs.zero State.reset = .next s') ∧ ∃ s', setWake 0 true State.reset = .next s' :=
  ⟨⟨_, rfl⟩, ⟨_, rfl⟩, _, rfl⟩

theorem witness_IdleClickOnlyAdvancesThePhase :
    ∀ t, awake (sampleWakes Inputs.zero State.reset.wake) State.reset.io t = false := by
  intro t
  cases t <;> rfl

/-- A latch, a write and a read, each in its phase. -/
theorem witness_EveryClickAdvancesThePhase :
    meets (.memLatch { plain with mem := true }) begun
        (fun s => decide (s.event = some (.latch 0x000000 false))) = true ∧
      meets (.memWrite { plain with mem := true }) { begun with phase := .c2 }
        (fun s => decide (s.event = some (.write 0))) = true ∧
      leaves (click { loaded 0x05E190008041 with phase := .c3 }) (fun s => decide (s.event = some .read)) = true := by
  decide

/-- The last address and the largest word, and the first of each out of range. -/
theorem witness_WriteCSLoadsOneWord :
    (4095 < 4096 ∧ (0xFFFFFFFFFFFF : Nat) < 2 ^ 48) ∧ (4096 ≤ (4096 : Nat)) ∧
      (2 : Nat) ^ 48 ≤ 0x1000000000000 := by decide

theorem witness_OnlyTheHostWritesTheControlStore :
    (∃ s', step { State.reset with agenda := [.writeCS 4095 1] } = .next s' ∧ s'.cs ≠ State.reset.cs) ∧
      ∃ s', step { State.reset with agenda := [.portWrite 0xFD 1] } = .next s' ∧ s'.cs ≠ State.reset.cs :=
  ⟨⟨_, rfl, by decide⟩, _, rfl, by decide⟩

theorem witness_SetWakeSetsAStoredFlag :
    ((1 ≤ (1 : Nat) ∧ (1 : Nat) ≤ 4) ∨ 8 ≤ (1 : Nat)) ∧ ((1 ≤ (4 : Nat) ∧ (4 : Nat) ≤ 4) ∨ 8 ≤ (4 : Nat)) ∧
      ((1 ≤ (8 : Nat) ∧ (8 : Nat) ≤ 4) ∨ 8 ≤ (8 : Nat)) := by decide

/-- A loaded and an unloaded word at the port address, and the last port below the slots. -/
theorem witness_PortReadsReturnTheMap :
    accCS { State.reset with cs := [(0, 1)] } State.reset.tpc.iopcs = some 1 ∧
      accCS State.reset State.reset.tpc.iopcs = none ∧
      ((0xF7 : Byte) ≠ 0xEB ∧ (0xF7 : Byte) ≠ 0xEC ∧ (0xF7 : Byte).toNat < 0xF8) := by decide

theorem witness_PortWritesUpdateTheMap :
    (0xF7 : Byte) ≠ 0xEB ∧ (0xF7 : Byte) ≠ 0xEC ∧ (0xF7 : Byte) ≠ 0xEE ∧ (0xF7 : Byte).toNat < 0xF8 := by decide

/-- An asleep state, inputs with no device wake, a step that stays asleep and one that does not. -/
theorem witness_ResetMachineIdlesUntilWoken :
    let s := State.reset
    (s.wake.emulator = false ∧ s.wake.iop = false ∧ s.wake.iopcs = false ∧ s.wake.kernel = false ∧
      ∀ t, s.io.wakeMode.get t = .disabled) ∧
    ¬(Inputs.zero.wakeDisplay = true ∨ Inputs.zero.wakeEthernet = true ∨ Inputs.zero.wakeRefresh = true ∨
      Inputs.zero.wakeDisk = true) ∧
    (∃ s', step { s with agenda := [.portWrite 0xEB 1] } = .next s') ∧
    ∃ s', step { s with agenda := [.setWake 5 true] } = .next s' ∧ s'.wake.iop = true :=
  ⟨⟨rfl, rfl, rfl, rfl, fun t => by cases t <;> rfl⟩, by decide, ⟨_, rfl⟩, _, rfl, rfl⟩

theorem witness_ResetIsSound : othersFirst.params.wf = true ∧ othersFirst.params ≠ Config.defaults := by decide

/-- A sound state with a loaded word, bytes in the IB and a pending code, whose step has a next state. -/
theorem witness_EveryStepKeepsTheStateSound :
    let s : State := { queued 0x00E080408010 with ib := [1, 2, 3], trap := ⟨4, true⟩ }
    s.sound = true ∧ ∃ s', step s = .next s' :=
  ⟨rfl, _, rfl⟩

theorem witness_EveryStepKeepsTheDeviceFlagsSampled :
    let s := queued 0x00E080408010
    (s.wake.display = s.inp.wakeDisplay ∧ s.wake.ethernet = s.inp.wakeEthernet ∧
      s.wake.refresh = s.inp.wakeRefresh ∧ s.wake.disk = s.inp.wakeDisk) ∧ ∃ s', step s = .next s' :=
  ⟨⟨rfl, rfl, rfl, rfl⟩, _, rfl⟩

/-- The request rises by a trap and by the control port, and falls by ClrIntErr. -/
theorem witness_InterruptRequestHasItsTwoSources :
    (∃ s', step (queued 0x00E00000A041) = .next s' ∧ s'.trap.intReq = true) ∧
      (∃ s', step { State.reset with agenda := [.portWrite 0xEC 2] } = .next s' ∧ s'.trap.intReq = true) ∧
      ∃ s', step { queued 0x00E0800A8041 with trap := ⟨6, true⟩ } = .next s' ∧ s'.trap = ⟨0, false⟩ :=
  ⟨⟨_, rfl, rfl⟩, ⟨_, rfl, rfl⟩, _, rfl, rfl⟩

end Sys2Proof.Tests
end

section
/-! Proofs of the statements about the state: soundness at reset and under every step (O56, O57), and the phase of
a click (O48). -/

namespace Sys2Proof.Machine

/-! ### Soundness -/

theorem State.sound_iff {s : State} :
    s.sound = true ↔ s.cs.wf = true ∧ s.ib.length ≤ 3 ∧ (s.trap.errPending = 0 ∨ s.trap.intReq = true) ∧
      s.params.wf = true := by
  simp [State.sound, and_assoc]

/-- From `s` to `s'` the parameters stay, and each part of soundness is kept. -/
structure KeepsSound (s s' : State) : Prop where
  params : s'.params = s.params
  cs : s.cs.wf = true → s'.cs.wf = true
  ib : s.ib.length ≤ 3 → s'.ib.length ≤ 3
  trap : s.trap.errPending = 0 ∨ s.trap.intReq = true → s'.trap.errPending = 0 ∨ s'.trap.intReq = true

theorem KeepsSound.sound {s s' : State} (k : KeepsSound s s') (h : s.sound = true) : s'.sound = true := by
  obtain ⟨hcs, hib, htrap, hparams⟩ := State.sound_iff.mp h
  exact State.sound_iff.mpr ⟨k.cs hcs, k.ib hib, k.trap htrap, k.params ▸ hparams⟩

theorem KeepsSound.trans {s₁ s₂ s₃ : State} (h : KeepsSound s₁ s₂) (k : KeepsSound s₂ s₃) : KeepsSound s₁ s₃ :=
  ⟨k.params.trans h.params, k.cs ∘ h.cs, k.ib ∘ h.ib, k.trap ∘ h.trap⟩

/-- Soundness reads four fields only. -/
theorem KeepsSound.of_eq {s s' : State} (hparams : s'.params = s.params) (hcs : s'.cs = s.cs) (hib : s'.ib = s.ib)
    (htrap : s'.trap = s.trap) : KeepsSound s s' :=
  ⟨hparams, hcs ▸ id, hib ▸ id, htrap ▸ id⟩

/-! ### The parts of a click -/

theorem beginClick_keepsSound (inp : Inputs) (s : State) : KeepsSound s (beginClick inp s) := .of_eq rfl rfl rfl rfl

theorem idleClick_keepsSound (s : State) : KeepsSound s (idleClick s) := .of_eq rfl rfl rfl rfl

/-- The trap registers after a word: a clear leaves no pending code, and raising traps requests (60 R402, R404). -/
theorem trapNext_requests (m : Microword) (t : Task) {s : State}
    (h : s.trap.errPending = 0 ∨ s.trap.intReq = true) :
    (trapNext m t s).errPending = 0 ∨ (trapNext m t s).intReq = true := by
  unfold trapNext
  apply raiseTraps_requests
  split
  · exact .inl clearTraps_errPending
  · exact h

theorem commit_keepsSound {m : Microword} {t : Task} {s : State} {ib : List Byte} (h : ibNext m t s = some ib) :
    KeepsSound s (commit m t s ib) where
  params := commit_params m t s ib
  cs := id
  ib := ibNext_length h
  trap := trapNext_requests m t

theorem executeClick_keepsSound {inp : Inputs} {s s' : State} (h : executeClick inp s = .next s') :
    KeepsSound s s' := by
  obtain rfl | ⟨m, t, ib, -, -, hib, rfl⟩ := executeClick_next h
  · exact (beginClick_keepsSound inp s).trans (idleClick_keepsSound _)
  · exact (beginClick_keepsSound inp s).trans (commit_keepsSound hib)

/-! ### The host's operations -/

theorem writeCS_keepsSound {a w : Nat} {s s' : State} (h : writeCS a w s = .next s') : KeepsSound s s' := by
  obtain ⟨ha, -, rfl⟩ := writeCS_next h
  exact ⟨rfl, Memory.wf_write s.cs a _ ha, id, id⟩

theorem setWake_keepsSound {t : Nat} {b : Bool} {s s' : State} (h : setWake t b s = .next s') : KeepsSound s s' := by
  obtain ⟨k, -, rfl⟩ := setWake_next h
  exact .of_eq rfl rfl rfl rfl

theorem portRead_keepsSound {p : Byte} {s s' : State} (h : portRead p s = .next s') : KeepsSound s s' := by
  obtain ⟨b, rfl | ⟨-, rfl⟩⟩ := portRead_next h <;> exact .of_eq rfl rfl rfl rfl

/-- A slot's write changes the control store at the port address only, which lies in the store. -/
theorem writeSlot_keepsSound (k : Fin 6) (v : Byte) (s : State) : KeepsSound s (writeSlot k v s) where
  params := writeSlot_params k v s
  cs h := by
    obtain he | ⟨w, he⟩ := writeSlot_cs k v s
    · rwa [he]
    · rw [he]
      exact Memory.wf_write s.cs _ w (csPortAddr_lt s) h
  ib := by rw [writeSlot_ib]; exact id
  trap := by rw [writeSlot_trap]; exact id

/-- The control port can set the interrupt request and never clears it (60 R419). -/
theorem writeControl_keepsSound (v : Byte) (s : State) : KeepsSound s (writeControl v s) where
  params := writeControl_params v s
  cs := id
  ib := id
  trap := by
    rw [writeControl_trap, Bool.or_eq_true]
    exact Or.imp_right .inl

theorem portWrite_keepsSound {p v : Byte} {s s' : State} (h : portWrite p v s = .next s') : KeepsSound s s' := by
  obtain ⟨k, -, rfl⟩ | rfl | rfl | rfl | rfl | rfl := portWrite_next h
  · exact writeSlot_keepsSound k v s
  · exact .of_eq rfl rfl rfl rfl
  · exact writeControl_keepsSound v s
  all_goals exact .of_eq rfl rfl rfl rfl

theorem performHostOp_keepsSound {op : HostOp} {s s' : State} (h : performHostOp op s = .next s') :
    KeepsSound s s' := by
  cases op with
  | executeClick inp => exact executeClick_keepsSound h
  | writeCS a w => exact writeCS_keepsSound h
  | setWake t b => exact setWake_keepsSound h
  | portRead p => exact portRead_keepsSound h
  | portWrite p v => exact portWrite_keepsSound h

/-! ### The step -/

theorem step_keepsSound {s s' : State} (h : step s = .next s') : KeepsSound s s' := by
  obtain ⟨-, he⟩ | ⟨op, rest, -, he⟩ := step_cases s
  · exact executeClick_keepsSound (he ▸ h)
  · have hagenda : KeepsSound s { s with agenda := rest } := .of_eq rfl rfl rfl rfl
    exact hagenda.trans (performHostOp_keepsSound (he ▸ h))

/-- Settles O57: each operation of the host keeps each part of soundness. -/
theorem everyStepKeepsTheStateSound : Obligations.EveryStepKeepsTheStateSound :=
  fun _ _ h => ⟨(step_keepsSound h).params, (step_keepsSound h).sound⟩

/-! ### Reset -/

theorem reset_with_params_sound {p : Params} (h : p.wf = true) : { State.reset with params := p }.sound = true :=
  State.sound_iff.mpr ⟨reset_cs_wf, Nat.zero_le 3, .inl rfl, h⟩

/-- Settles O56: the defaults are one of the total orders. -/
theorem resetIsSound : Obligations.ResetIsSound :=
  ⟨reset_with_params_sound Config.defaults_wf, rfl, fun _ h => reset_with_params_sound h⟩

/-! ### The phase of a click -/

/-- The phase that the events of the memory interface belong to (44 R321 to R323). -/
def MemEvent.phase : MemEvent → Phase
  | .latch _ _ => .c1
  | .write _ => .c2
  | .read => .c3

/-- A word emits the event of the phase it runs in. -/
theorem memEvent_phase {m : Microword} {t : Task} {s : State} {e : MemEvent} (h : memEvent m t s = some e) :
    s.phase = e.phase := by
  unfold memEvent at h
  split at h
  · cases hp : s.phase with
    | c1 =>
      simp only [hp, Option.some.injEq] at h
      rw [← h]
      rfl
    | c2 =>
      simp only [hp, Option.ite_none_left_eq_some, Option.some.injEq] at h
      rw [← h.2]
      rfl
    | c3 =>
      simp only [hp, Option.ite_none_left_eq_some, Option.some.injEq] at h
      rw [← h.2]
      rfl
  · exact absurd h (by simp)

theorem executeClick_phase {inp : Inputs} {s s' : State} (h : executeClick inp s = .next s') :
    s'.phase = phaseSucc s.phase := by
  obtain rfl | ⟨m, t, ib, -, -, -, rfl⟩ := executeClick_next h <;> rfl

/-- A click emits the event of the phase it reads; an idle one emits none. -/
theorem executeClick_event_phase {inp : Inputs} {s s' : State} {e : MemEvent} (h : executeClick inp s = .next s')
    (he : s'.event = some e) : s.phase = e.phase := by
  obtain rfl | ⟨m, t, ib, -, -, -, rfl⟩ := executeClick_next h
  · rw [idleClick_event] at he
    exact absurd he (by simp)
  · rw [commit_event] at he
    exact beginClick_phase inp s ▸ memEvent_phase he

/-- Settles O48, by the phase after a click and the phase of its event. -/
theorem everyClickAdvancesThePhase : Obligations.EveryClickAdvancesThePhase := by
  refine ⟨fun inp s s' h => ?_, rfl⟩
  have advances : ∀ p, s.phase = p → s'.phase = phaseSucc p := fun p hp => hp ▸ executeClick_phase h
  have emits : ∀ e, s'.event = some e → s.phase = e.phase := fun e => executeClick_event_phase h
  exact ⟨advances .c1, advances .c2, advances .c3, fun a m => emits (.latch a m), fun d => emits (.write d),
    emits .read⟩

end Sys2Proof.Machine
end

section
/-! Proof that only the host's `writeCS` and its write of slot f change the control store (O50). -/

namespace Sys2Proof.Machine

/-- A click, idle or not, leaves the control store (20 R72). -/
theorem executeClick_cs {inp : Inputs} {s s' : State} (h : executeClick inp s = .next s') : s'.cs = s.cs := by
  obtain rfl | ⟨m, t, ib, -, -, -, rfl⟩ := executeClick_next h
  · rw [idleClick_cs, beginClick_cs]
  · rw [commit_cs, beginClick_cs]

theorem setWake_cs {t : Nat} {b : Bool} {s s' : State} (h : setWake t b s = .next s') : s'.cs = s.cs := by
  obtain ⟨k, -, rfl⟩ := setWake_next h
  rfl

theorem portRead_cs {p : Byte} {s s' : State} (h : portRead p s = .next s') : s'.cs = s.cs := by
  obtain ⟨b, rfl | ⟨-, rfl⟩⟩ := portRead_next h <;> rfl

/-- The port of slot `k` is 0xF8 + `k` (60 R420). -/
theorem toNat_of_slotOfPort {p : Byte} {k : Fin 6} (h : slotOfPort p = some k) : p.toNat = 0xF8 + k.val := by
  unfold slotOfPort at h
  split at h
  · next hp =>
    obtain rfl := Option.some.inj h
    exact (Nat.add_sub_cancel' hp.1).symm
  · exact absurd h (by simp)

/-- The slots before slot f only stage a byte (60 R420). -/
theorem writeSlot_cs_of_ne {k : Fin 6} (h : k.val ≠ 5) (v : Byte) (s : State) : (writeSlot k v s).cs = s.cs := by
  simp only [writeSlot, if_neg h]

/-- Of the ports, only slot f at 0xFD writes the control store. -/
theorem portWrite_cs {p v : Byte} {s s' : State} (h : portWrite p v s = .next s') : s'.cs = s.cs ∨ p = 0xFD := by
  obtain ⟨k, hk, rfl⟩ | rfl | rfl | rfl | rfl | rfl := portWrite_next h
  · by_cases hf : k.val = 5
    · have hp : p.toNat = 0xFD := by rw [toNat_of_slotOfPort hk, hf]
      exact .inr (BitVec.eq_of_toNat_eq hp)
    · exact .inl (writeSlot_cs_of_ne hf v s)
  · exact .inl rfl
  · exact .inl (writeControl_cs v s)
  all_goals exact .inl rfl

/-- The host's operations that may write the control store. -/
theorem performHostOp_cs {op : HostOp} {s s' : State} (h : performHostOp op s = .next s') :
    s'.cs = s.cs ∨ (∃ a w, op = .writeCS a w) ∨ ∃ v, op = .portWrite 0xFD v := by
  cases op with
  | executeClick inp => exact .inl (executeClick_cs h)
  | writeCS a w => exact .inr (.inl ⟨a, w, rfl⟩)
  | setWake t b => exact .inl (setWake_cs h)
  | portRead p => exact .inl (portRead_cs h)
  | portWrite p v =>
    obtain hkept | rfl := portWrite_cs h
    · exact .inl hkept
    · exact .inr (.inr ⟨v, rfl⟩)

/-- Settles O50: a step is a click, which keeps the control store, or one host operation, and of these only two
can write it. -/
theorem onlyTheHostWritesTheControlStore : Obligations.OnlyTheHostWritesTheControlStore := by
  intro s s' h hcs
  obtain ⟨-, he⟩ | ⟨op, rest, hagenda, he⟩ := step_cases s
  · exact absurd (executeClick_cs (he ▸ h)) hcs
  · obtain hkept | ⟨a, w, rfl⟩ | ⟨v, rfl⟩ := performHostOp_cs (he ▸ h)
    · exact absurd hkept hcs
    · exact ⟨rest, .inl ⟨a, w, hagenda⟩⟩
    · exact ⟨rest, .inr ⟨v, hagenda⟩⟩

end Sys2Proof.Machine
end

section
/-! The fields of a word: under a mask, and as what its encoding is made of. Proof that every encoding has the bits
of its row of the opcode table (O4). -/

namespace Sys2Proof

/-! ### Fields under a mask -/

/-- The bits of a field of `l` bits at bit `k`. -/
def fieldMask (k l : Nat) : ControlWord := (BitVec.allOnes l).setWidth 48 <<< k

/-- A field's value at bit `k`, every other bit zero. -/
def fieldBits {l : Nat} (k : Nat) (c : BitVec l) : ControlWord := c.setWidth 48 <<< k

theorem getLsbD_fieldMask (k l i : Nat) :
    (fieldMask k l).getLsbD i = (decide (i < 48) && !decide (i < k) && decide (i - k < l)) := by
  simp only [fieldMask, BitVec.getLsbD_shiftLeft, BitVec.getLsbD_setWidth, BitVec.getLsbD_allOnes]
  grind

theorem getLsbD_fieldBits {l : Nat} (k : Nat) (c : BitVec l) (i : Nat) :
    (fieldBits k c).getLsbD i = (decide (i < 48) && !decide (i < k) && c.getLsbD (i - k)) := by
  simp only [fieldBits, BitVec.getLsbD_shiftLeft, BitVec.getLsbD_setWidth]
  grind

/-- A word under a field's mask is that field of the word. -/
theorem and_fieldMask (w : ControlWord) (k l : Nat) :
    w &&& fieldMask k l = fieldBits k (w.extractLsb' k l) := by
  apply BitVec.eq_of_getLsbD_eq
  intro i hi
  rw [BitVec.getLsbD_and, getLsbD_fieldMask, getLsbD_fieldBits, BitVec.getLsbD_extractLsb']
  by_cases hk : i < k
  · simp [hk]
  · rw [Nat.add_sub_of_le (by omega)]
    simp [hi, hk, Bool.and_comm]

/-- A word under the masks of two fields. -/
theorem and_twoFields (w : ControlWord) {mask : ControlWord} {k l k' l' : Nat}
    (h : mask = fieldMask k l ||| fieldMask k' l') :
    w &&& mask = fieldBits k (w.extractLsb' k l) ||| fieldBits k' (w.extractLsb' k' l') := by
  rw [h, BitVec.and_or_distrib_left, and_fieldMask, and_fieldMask]

/-- A field that a row's mask covers has the row's value. -/
theorem extract_of_and_eq {mask val w : ControlWord} (h : w &&& mask = val) {k l : Nat}
    (hk : mask.extractLsb' k l = BitVec.allOnes l) : w.extractLsb' k l = val.extractLsb' k l := by
  rw [← h, BitVec.extractLsb'_and, hk, BitVec.and_allOnes]

/-- A field of a field. -/
theorem extract_extract {n k l i j : Nat} (x : BitVec n) (h : i + j ≤ l) :
    (x.extractLsb' k l).extractLsb' i j = x.extractLsb' (k + i) j := by
  apply BitVec.eq_of_getLsbD_eq
  intro b hb
  have hl : i + b < l := by omega
  simp [hb, hl, Nat.add_assoc]

/-- Writing a row's bits gives a word that has them. -/
theorem withRowBits_and {mask val : ControlWord} (h : val &&& mask = val) (w : ControlWord) :
    withRowBits mask val w &&& mask = val := by
  apply BitVec.eq_of_getLsbD_eq
  intro i hi
  have hb := congrArg (BitVec.getLsbD · i) h
  simp only [withRowBits, BitVec.getLsbD_and, BitVec.getLsbD_or, BitVec.getLsbD_not, hi] at hb ⊢
  rw [Bool.and_or_distrib_right, hb]
  simp [Bool.and_assoc]

/-! ### The masks of the opcode table, as fields of 30 R111 -/

theorem and_aSMask (w : ControlWord) : w &&& 0x00E000000000 = fieldBits 37 (w.extractLsb' 37 3) :=
  and_fieldMask w 37 3

theorem and_aFMask (w : ControlWord) : w &&& 0x001C00000000 = fieldBits 34 (w.extractLsb' 34 3) :=
  and_fieldMask w 34 3

theorem and_aDMask (w : ControlWord) : w &&& 0x000300000000 = fieldBits 32 (w.extractLsb' 32 2) :=
  and_fieldMask w 32 2

theorem and_enSUMask (w : ControlWord) : w &&& 0x000020000000 = fieldBits 29 (w.extractLsb' 29 1) :=
  and_fieldMask w 29 1

theorem and_memMask (w : ControlWord) : w &&& 0x000010000000 = fieldBits 28 (w.extractLsb' 28 1) :=
  and_fieldMask w 28 1

theorem and_fSYMask (w : ControlWord) : w &&& 0x00000C000000 = fieldBits 26 (w.extractLsb' 26 2) :=
  and_fieldMask w 26 2

theorem and_fSZMask (w : ControlWord) : w &&& 0x000003000000 = fieldBits 24 (w.extractLsb' 24 2) :=
  and_fieldMask w 24 2

theorem and_yMask (w : ControlWord) :
    w &&& 0x00000CF00000 = fieldBits 26 (w.extractLsb' 26 2) ||| fieldBits 20 (w.extractLsb' 20 4) :=
  and_twoFields w (by decide)

theorem and_xMask (w : ControlWord) :
    w &&& 0x0000020F0000 = fieldBits 25 (w.extractLsb' 25 1) ||| fieldBits 16 (w.extractLsb' 16 4) :=
  and_twoFields w (by decide)

theorem and_zMask (w : ControlWord) :
    w &&& 0x00000300F000 = fieldBits 24 (w.extractLsb' 24 2) ||| fieldBits 12 (w.extractLsb' 12 4) :=
  and_twoFields w (by decide)

theorem and_linkMask (w : ControlWord) :
    w &&& 0x000003008000 = fieldBits 24 (w.extractLsb' 24 2) ||| fieldBits 15 (w.extractLsb' 15 1) :=
  and_twoFields w (by decide)

theorem and_cycleMask (w : ControlWord) :
    w &&& 0x00000CE00000 = fieldBits 26 (w.extractLsb' 26 2) ||| fieldBits 21 (w.extractLsb' 21 3) :=
  and_twoFields w (by decide)

/-! ### The code tables -/

@[simp] theorem SrcPair.code_ofCode (c : BitVec 3) : (SrcPair.ofCode c).code = c := by revert c; decide

@[simp] theorem AluFn.code_ofCode (c : BitVec 3) : (AluFn.ofCode c).code = c := by revert c; decide

@[simp] theorem DestCtl.code_ofCode (c : BitVec 2) : (DestCtl.ofCode c).code = c := by revert c; decide

theorem FXFn.code_of_ofCode : ∀ c : BitVec 4, ∀ x ∈ FXFn.ofCode c, x.code = c := by decide

theorem IOFn.code_of_ofCode : ∀ c : BitVec 4, ∀ f ∈ IOFn.ofCode c, f.code = c := by decide

theorem YField.sel_code_of_ofCode :
    ∀ (sel : BitVec 2) (c : BitVec 4), ∀ y ∈ YField.ofCode sel c, y.sel = sel ∧ y.code = c := by decide

theorem ZField.sel_code_of_ofNormalCode :
    ∀ c : BitVec 4, ∀ z ∈ ZField.ofNormalCode c, z.sel = 0#2 ∧ z.code = c := by decide

/-- The three forms of the X and Z fields, by the Z-selector (30 R121). -/
theorem XZField.sel_codes_of_ofCode {sel : BitVec 2} {fX fZ : BitVec 4} {xz : XZField}
    (h : XZField.ofCode sel fX fZ = some xz) : xz.sel = sel ∧ xz.fX = fX ∧ xz.fZ = fZ := by
  unfold XZField.ofCode at h
  split at h
  · split at h
    · next x z hx hz =>
      obtain ⟨hs, hc⟩ := ZField.sel_code_of_ofNormalCode fZ z hz
      obtain rfl := Option.some.inj h
      exact ⟨hs, FXFn.code_of_ofCode fX x hx, hc⟩
    · exact absurd h (by simp)
  · split at h
    · next x f hx hf =>
      obtain rfl := Option.some.inj h
      exact ⟨rfl, FXFn.code_of_ofCode fX x hx, IOFn.code_of_ofCode fZ f hf⟩
    · exact absurd h (by simp)
  · obtain rfl := Option.some.inj h
    refine ⟨rfl, ?_, extract_last fX fZ⟩
    exact (extract_above fX fZ (Nat.le_refl 4)).trans BitVec.extractLsb'_eq_self
  · exact absurd h (by simp)

/-! ### A word and its fields -/

theorem ofBool_getLsbD (w : ControlWord) (k : Nat) : BitVec.ofBool (w.getLsbD k) = w.extractLsb' k 1 := by
  apply BitVec.eq_of_getLsbD_eq
  intro i hi
  obtain rfl : i = 0 := by omega
  simp

/-- A word is the concatenation of its fields (30 R111). -/
theorem concat_fields (w : ControlWord) :
    w.extractLsb' 44 4 ++ w.extractLsb' 40 4 ++ w.extractLsb' 37 3 ++ w.extractLsb' 34 3 ++ w.extractLsb' 32 2 ++
      w.extractLsb' 31 1 ++ w.extractLsb' 30 1 ++ w.extractLsb' 29 1 ++ w.extractLsb' 28 1 ++
      w.extractLsb' 26 2 ++ w.extractLsb' 24 2 ++ w.extractLsb' 20 4 ++ w.extractLsb' 16 4 ++ w.extractLsb' 12 4 ++
      w.extractLsb' 0 12 = w := by
  iterate 14 rw [BitVec.extractLsb'_append_extractLsb'_eq_extractLsb' (by decide)]
  exact BitVec.extractLsb'_eq_self

theorem doubleIBRead_eq_false_iff {m : Microword} : m.doubleIBRead = false ↔ m.oneIBRead = true := by
  rw [doubleIBRead_eq_not_oneIBRead, Bool.not_eq_false']

/-- What a decoded word is: its 48 bits are the word, and it reads the IB at most once. -/
theorem encode_of_decodeMicroword {w : ControlWord} {m : Microword} (h : decodeMicroword w = some m) :
    m.encode = w ∧ m.doubleIBRead = false := by
  unfold decodeMicroword at h
  split at h
  · next y xz hy hxz =>
    dsimp only at h
    split at h
    · exact absurd h (by simp)
    · next hd =>
      obtain rfl := Option.some.inj h
      refine ⟨?_, Bool.eq_false_iff.mpr hd⟩
      obtain ⟨hysel, hycode⟩ := YField.sel_code_of_ofCode _ _ _ hy
      obtain ⟨hxzsel, hfX, hfZ⟩ := XZField.sel_codes_of_ofCode hxz
      simp only [Microword.encode, SrcPair.code_ofCode, AluFn.code_ofCode, DestCtl.code_ofCode, hysel, hycode, hxzsel,
        hfX, hfZ, ofBool_getLsbD]
      exact concat_fields w
  · exact absurd h (by simp)

/-- A word with two IB reads is the only decoded word that is refused (30 R133). -/
theorem decodeMicroword_encode (m : Microword) :
    decodeMicroword m.encode = if m.doubleIBRead then none else some m := by
  simp only [decodeMicroword, encode_fSY, encode_fY, encode_fSZ, encode_fX, encode_fZ, YField.ofCode_code,
    XZField.ofCode_code, encode_rA, encode_rB, encode_aS, encode_aF, encode_aD, encode_ep, encode_cin, encode_enSU,
    encode_mem, encode_inia, SrcPair.ofCode_code, AluFn.ofCode_code, DestCtl.ofCode_code]

/-! ### The words of the table's rows -/

theorem extract_enSU (m : Microword) : m.encode.extractLsb' 29 1 = BitVec.ofBool m.enSU := by
  rw [← ofBool_getLsbD, encode_enSU]

theorem extract_mem (m : Microword) : m.encode.extractLsb' 28 1 = BitVec.ofBool m.mem := by
  rw [← ofBool_getLsbD, encode_mem]

/-- The high bit of the Z-selector, clear where the X field is a code (30 R121, R123). -/
theorem extract_fSZ_high (m : Microword) : m.encode.extractLsb' 25 1 = m.xz.sel.extractLsb' 1 1 := by
  rw [← encode_fSZ, extract_extract _ (by decide)]

/-- The high bit of the Z field's code, clear in a Link code (30 R128). -/
theorem extract_fZ_high (m : Microword) : m.encode.extractLsb' 15 1 = m.xz.fZ.extractLsb' 3 1 := by
  rw [← encode_fZ, extract_extract _ (by decide)]

/-- The three high bits of the Y field's code. -/
theorem extract_fY_high (m : Microword) : m.encode.extractLsb' 21 3 = m.y.code.extractLsb' 1 3 := by
  rw [← encode_fY, extract_extract _ (by decide)]

theorem asSrc_row (p : SrcPair) (o : Microword) :
    (o.asSrc p).encode &&& 0x00E000000000 = fieldBits 37 p.code := by
  rw [and_aSMask, encode_aS, Microword.asSrc]

theorem asAlu_row (f : AluFn) (o : Microword) :
    (o.asAlu f).encode &&& 0x001C00000000 = fieldBits 34 f.code := by
  rw [and_aFMask, encode_aF, Microword.asAlu]

theorem asDest_row (c : DestCtl) (o : Microword) :
    (o.asDest c).encode &&& 0x000300000000 = fieldBits 32 c.code := by
  rw [and_aDMask, encode_aD, Microword.asDest]

/-- The row's mask leaves out bit 21, which is the cycle bit of the two Q codes. -/
theorem asDestQ_row (c : DestCtl) (o : Microword) :
    (o.asDestQ c).encode &&& 0x00030CD00000 = fieldBits 32 c.code ||| 0x000000100000 := by
  have hmask : (0x00030CD00000 : ControlWord) = fieldMask 32 2 ||| 0x00000CF00000 &&& ~~~fieldMask 21 1 := by decide
  rw [hmask, BitVec.and_or_distrib_left, ← BitVec.and_assoc, and_fieldMask, and_yMask, encode_aD, encode_fSY,
    encode_fY, Microword.asDestQ]
  congr 1
  dsimp only
  split <;> decide

theorem asCycle_row (o : Microword) : o.asCycle.encode &&& 0x00000CE00000 = 0x000000200000 := by
  rw [and_cycleMask, encode_fSY, extract_fY_high, Microword.asCycle]
  dsimp only
  split <;> decide

theorem asEnSU_row (o : Microword) : o.asEnSU.encode &&& 0x000020000000 = 0x000020000000 := by
  rw [and_enSUMask, extract_enSU, Microword.asEnSU]
  dsimp only
  decide

theorem asMem_row (o : Microword) : o.asMem.encode &&& 0x000010000000 = 0x000010000000 := by
  rw [and_memMask, extract_mem, Microword.asMem]
  dsimp only
  decide

/-- The Y field's row: its selector and its code. -/
theorem encode_and_yMask (m : Microword) :
    m.encode &&& 0x00000CF00000 = fieldBits 26 m.y.sel ||| fieldBits 20 m.y.code := by
  rw [and_yMask, encode_fSY, encode_fY]

theorem asFY_row (f : FYFn) (o : Microword) :
    (o.asFY f).encode &&& 0x00000CF00000 = fieldBits 26 0#2 ||| fieldBits 20 f.code := encode_and_yMask _

theorem asBD_row (f : BDFn) (o : Microword) :
    (o.asBD f).encode &&& 0x00000CF00000 = fieldBits 26 1#2 ||| fieldBits 20 f.code := encode_and_yMask _

theorem asIOY_row (f : IOFn) (o : Microword) :
    (o.asIOY f).encode &&& 0x00000CF00000 = fieldBits 26 2#2 ||| fieldBits 20 f.code := encode_and_yMask _

/-- A word that has a Z field has a Z-selector of 0 or 1 (30 R121). -/
theorem ZField.sel_high (z : ZField) : z.sel.extractLsb' 1 1 = 0#1 := by
  cases z <;> simp [ZField.sel]

theorem asFX_row (f : FXFn) (o : Microword) :
    (o.asFX f).encode &&& 0x0000020F0000 = fieldBits 25 0#1 ||| fieldBits 16 f.code := by
  rw [and_xMask, extract_fSZ_high, encode_fX, Microword.asFX, XZField.sel, ZField.sel_high, XZField.fX]

theorem asZ_row (z : ZField) (o : Microword) :
    (o.asZ z).encode &&& 0x00000300F000 = fieldBits 24 z.sel ||| fieldBits 12 z.code := by
  rw [and_zMask, encode_fSZ, encode_fZ, Microword.asZ, XZField.sel, XZField.fZ]

theorem asZ_link_row (low : BitVec 3) (o : Microword) :
    (o.asZ (.link low)).encode &&& 0x000003008000 = 0x000000000000 := by
  rw [and_linkMask, encode_fSZ, extract_fZ_high, Microword.asZ, XZField.sel, XZField.fZ]
  revert low
  decide

theorem asLink_row (o : Microword) : o.asLink.encode &&& 0x000003008000 = 0x000000000000 := asZ_link_row _ o

theorem asLit_row (o : Microword) : o.asLit.encode &&& 0x000003000000 = 0x000002000000 := by
  rw [and_fSZMask, encode_fSZ, Microword.asLit, XZField.sel]
  decide

/-- Settles O4, row by row: the row's mask reads the fields that the row's code was written to. -/
theorem encodingHasItsTableRowsBits : Obligations.EncodingHasItsTableRowsBits := by
  intro i
  cases i with
  | microword o => exact BitVec.and_zero
  | srcAQ o | srcAB o | srcZQ o | srcZB o | srcZA o | srcDA o | srcDQ o | srcDZ o =>
    exact (asSrc_row _ o).trans (by simp only [Instr.tableRow]; decide)
  | aluADD o | aluSUBR o | aluSUBS o | aluOR o | aluAND o | aluNOTRS o | aluEXOR o | aluEXNOR o =>
    exact (asAlu_row _ o).trans (by simp only [Instr.tableRow]; decide)
  | destQREG o | destRAMA o | destRAMQD o | destRAMQU o =>
    exact (asDestQ_row _ o).trans (by simp only [Instr.tableRow]; decide)
  | destNOP o | destRAMF o | destRAMD o | destRAMU o =>
    exact (asDest_row _ o).trans (by simp only [Instr.tableRow]; decide)
  | cycleShift o => exact asCycle_row o
  | enSU o => exact asEnSU_row o
  | memLatch o | memWrite o | memRead o => exact asMem_row o
  | fyNOP o | fyQOp o | fyCycle o | fyQCycle o | fyBlock o | fyMap o =>
    exact (asFY_row _ o).trans (by simp only [Instr.tableRow]; decide)
  | bdNegBr o | bdZeroBr o | bdNZeroBr o | bdIntBr o | bdPgCarryBr o | bdCarryBr o | bdXRefBr o | bdNibCarryBr o
  | bdYDisp o | bdYIODisp o | bdIBDisp o | bdAlwaysIBDisp o | bdIBPtrDisp o =>
    exact (asBD_row _ o).trans (by simp only [Instr.tableRow]; decide)
  | ioYNOP o | ioYIOPOData o | ioYIOPCtl o | ioYDMADone o =>
    exact (asIOY_row _ o).trans (by simp only [Instr.tableRow]; decide)
  | fxNOP o | fxBusU o | fxBusRH o | fxBusIB o | fxBusIBNA o | fxBusIOP o | fxBusLink o | fxBusErr o | fxRHWrite o
  | fxIBLoad o | fxClrIntErr o =>
    exact (asFX_row _ o).trans (by simp only [Instr.tableRow]; decide)
  | fzLink o => exact asLink_row o
  | fzNOP o | fzPush o | fzPop o | fzPop2 o | ioZNOP o | ioZIOPOData o | ioZIOPCtl o | ioZDMADone o =>
    exact (asZ_row _ o).trans (by simp only [Instr.tableRow]; decide)
  | lit o => exact asLit_row o
  | _ w => exact withRowBits_and (by decide) w

end Sys2Proof
end

section
/-! What the decoder names a word: a well-formed term that carries that word, valid or invalid. -/

namespace Sys2Proof.Laws.CarriesItsWord

/-- The law of `Statement`, for every constructor. -/
theorem statement (i : Instr) : Statement i := by
  cases i
  exacts [
    microword _, srcAQ _, srcAB _, srcZQ _, srcZB _, srcZA _, srcDA _, srcDQ _, srcDZ _, aluADD _, aluSUBR _,
    aluSUBS _, aluOR _, aluAND _, aluNOTRS _, aluEXOR _, aluEXNOR _, destQREG _, destNOP _, destRAMA _,
    destRAMF _, destRAMQD _, destRAMD _, destRAMQU _, destRAMU _, cycleShift _, enSU _, memLatch _, memWrite _,
    memRead _, fyNOP _, fyQOp _, fyCycle _, fyQCycle _, fyBlock _, fyMap _, fyReserved6 _, fyReserved7 _,
    fyReserved8 _, fyReserved9 _, fyReserved10 _, fyReserved11 _, fyReserved12 _, fyReserved13 _, fyReserved14 _,
    fyReserved15 _, bdNegBr _, bdZeroBr _, bdNZeroBr _, bdIntBr _, bdPgCarryBr _, bdCarryBr _, bdXRefBr _,
    bdNibCarryBr _, bdYDisp _, bdYIODisp _, bdIBDisp _, bdAlwaysIBDisp _, bdIBPtrDisp _, bdReserved13 _,
    bdReserved14 _, bdReserved15 _, ioYNOP _, ioYIOPOData _, ioYIOPCtl _, ioYDMADone _, ioYReserved4 _,
    ioYReserved5 _, ioYReserved6 _, ioYReserved7 _, ioYReserved8 _, ioYReserved9 _, ioYReserved10 _,
    ioYReserved11 _, ioYReserved12 _, ioYReserved13 _, ioYReserved14 _, ioYReserved15 _, fsyReserved3 _, fxNOP _,
    fxBusU _, fxBusRH _, fxBusIB _, fxBusIBNA _, fxBusIOP _, fxBusLink _, fxBusErr _, fxRHWrite _, fxIBLoad _,
    fxClrIntErr _, fxReserved11 _, fxReserved12 _, fxReserved13 _, fxReserved14 _, fxReserved15 _, fzLink _,
    fzNOP _, fzPush _, fzPop _, fzPop2 _, fzReserved12 _, fzReserved13 _, fzReserved14 _, fzReserved15 _,
    ioZNOP _, ioZIOPOData _, ioZIOPCtl _, ioZDMADone _, ioZReserved4 _, ioZReserved5 _, ioZReserved6 _,
    ioZReserved7 _, ioZReserved8 _, ioZReserved9 _, ioZReserved10 _, ioZReserved11 _, ioZReserved12 _,
    ioZReserved13 _, ioZReserved14 _, ioZReserved15 _, lit _, fszReserved3 _, invalidBusIBIBDisp _,
    invalidBusIBAlwaysIBDisp _, invalidBusIBNAIBDisp _, invalidBusIBNAAlwaysIBDisp _]

/-- A well-formed term denotes the word or the bits it carries. -/
theorem body_eq_carried {i : Instr} (h : i.wf = true) : i.body = carried i := (statement i h).1

/-- A well-formed term's word reads the IB at most once (30 R133). -/
theorem oneIBRead_of_wf {i : Instr} {m : Microword} (h : i.wf = true) (hb : i.body = .word m) : m.oneIBRead = true :=
  (statement i h).2 m (body_eq_carried h ▸ hb)

end Sys2Proof.Laws.CarriesItsWord

namespace Sys2Proof

open Laws.CarriesItsWord

/-! ### Naming a word -/

/-- `i` is a well-formed term that carries `b`. -/
def Names (b : Body) (i : Instr) : Prop := carried i = b ∧ i.wf = true

theorem Names.body {b : Body} {i : Instr} (h : Names b i) : i.body = b := (body_eq_carried h.2).trans h.1

theorem nameBD_names {m : Microword} {f : BDFn} (hr : m.oneIBRead = true) (hy : m.y = .bd f) :
    Names (.word m) (nameBD m f) := by
  cases f <;> exact ⟨rfl, by simp [nameBD, Instr.wf, hy, hr]⟩

theorem nameIOY_names {m : Microword} {f : IOFn} (hr : m.oneIBRead = true) (hy : m.y = .io f) :
    Names (.word m) (nameIOY m f) := by
  cases f <;> exact ⟨rfl, by simp [nameIOY, Instr.wf, hy, hr]⟩

theorem nameIOZ_names {m : Microword} {f : IOFn} (hr : m.oneIBRead = true) (hz : m.xz.z? = some (.io f)) :
    Names (.word m) (nameIOZ m f) := by
  cases f <;> exact ⟨rfl, by simp [nameIOZ, Instr.wf, hz, hr]⟩

/-- The Y, X and Z fields that `nameXZ` hands to `nameDatapath`: FY NOP, FX NOP, and Link or FZ NOP. -/
structure NoFieldFunction (m : Microword) : Prop where
  y : m.y = .fy .nop
  x : m.xz.x? = some .nop
  z : m.xz.isLink = false → m.xz.z? = some .nop

section
variable {m : Microword}

theorem namePlain_names (hr : m.oneIBRead = true) (hn : NoFieldFunction m) (hf : m.aF = .add)
    (hs : m.aS = .aq ∨ m.aS = .dz) : Names (.word m) (namePlain m) := by
  unfold namePlain
  cases hd : decide (m.aS = .dz) <;> cases hl : m.xz.isLink <;> cases m.cin
  all_goals exact ⟨rfl, by simp_all [Instr.wf, hn.x, hn.y, hn.z]⟩

theorem nameSrc_names (hr : m.oneIBRead = true) (hn : NoFieldFunction m) (hf : m.aF = .add) :
    Names (.word m) (nameSrc m) := by
  unfold nameSrc
  cases hs : m.aS with
  | aq => exact namePlain_names hr hn hf (.inl hs)
  | dz => exact namePlain_names hr hn hf (.inr hs)
  | _ => exact ⟨rfl, by simp [Instr.wf, hs, hr]⟩

/-- The Y field NOP leaves the Q-select bit clear. -/
theorem NoFieldFunction.isQ (hn : NoFieldFunction m) : m.y.isQ = false := by
  rw [hn.y]
  rfl

theorem nameFn_names (hr : m.oneIBRead = true) (hn : NoFieldFunction m) (hd : m.aD = .none) :
    Names (.word m) (nameFn m) := by
  unfold nameFn
  cases hf : m.aF with
  | add => exact nameSrc_names hr hn hf
  | _ =>
    cases decide (m.aS = .aq) with
    | true => exact ⟨rfl, by simp [Instr.wf, hf, hr]⟩
    | false => exact ⟨rfl, by simp [Instr.wf, hd, hn.isQ, hr]⟩

theorem nameDatapath_names (hr : m.oneIBRead = true) (hn : NoFieldFunction m) (ph : Phase) :
    Names (.word m) (nameDatapath ph m) := by
  unfold nameDatapath
  split
  · next hm => cases ph <;> exact ⟨rfl, by simp [Instr.wf, hm, hr]⟩
  · split
    · next hu => exact ⟨rfl, by simp [Instr.wf, hu, hr]⟩
    · cases hd : m.aD with
      | none => exact nameFn_names hr hn hd
      | _ => exact ⟨rfl, by simp [Instr.wf, hd, hn.isQ, hr]⟩

theorem nameXZ_names (hr : m.oneIBRead = true) (hy : m.y = .fy .nop) (ph : Phase) :
    Names (.word m) (nameXZ ph m) := by
  unfold nameXZ
  cases hxz : m.xz with
  | lit b => exact ⟨rfl, by simp [Instr.wf, hxz, hr, XZField.isLit]⟩
  | fn x z =>
    have hx : m.xz.x? = some x := by rw [hxz]; rfl
    have hz : m.xz.z? = some z := by rw [hxz]; rfl
    cases x with
    | nop =>
      cases z with
      | link low => exact nameDatapath_names hr ⟨hy, hx, by simp [hxz, XZField.isLink]⟩ ph
      | nop => exact nameDatapath_names hr ⟨hy, hx, fun _ => hz⟩ ph
      | io f => exact nameIOZ_names hr hz
      | _ => exact ⟨rfl, by simp [Instr.wf, hz, hr]⟩
    | _ => exact ⟨rfl, by simp [Instr.wf, hx, hr]⟩

theorem nameQCycle_names (hr : m.oneIBRead = true) {f : FYFn} (hy : m.y = .fy f)
    (hf : f = .qOp ∨ f = .cycle ∨ f = .qCycle) : Names (.word m) (nameQCycle m) := by
  unfold nameQCycle Microword.qSel Microword.cycle
  rw [hy]
  obtain rfl | rfl | rfl := hf <;> cases hd : m.aD
  case inl.none =>
    dsimp only
    split <;> exact ⟨rfl, by simp [Instr.wf, hy, hd, hr, YField.isQ]⟩
  all_goals exact ⟨rfl, by simp [Instr.wf, hy, hd, hr, YField.isQ, YField.isCycle]⟩

/-- The decoder's name for a valid word carries that word and has its row's code. -/
theorem nameWord_names (hr : m.oneIBRead = true) (ph : Phase) : Names (.word m) (nameWord ph m) := by
  unfold nameWord
  cases hy : m.y with
  | bd f => exact nameBD_names hr hy
  | io f => exact nameIOY_names hr hy
  | fy f =>
    cases f with
    | block | map => exact ⟨rfl, by simp [Instr.wf, hy, hr]⟩
    | nop => exact nameXZ_names hr hy ph
    | qOp | cycle | qCycle => exact nameQCycle_names hr hy (by decide)

end

/-! ### Invalid words -/

theorem FXFn.ofCode_eq_none : ∀ c : BitVec 4, FXFn.ofCode c = none ↔ 11 ≤ c.toNat := by decide

theorem IOFn.ofCode_eq_none : ∀ c : BitVec 4, IOFn.ofCode c = none ↔ 4 ≤ c.toNat := by decide

theorem ZField.ofNormalCode_eq_none : ∀ c : BitVec 4, ZField.ofNormalCode c = none ↔ 12 ≤ c.toNat := by decide

/-- The Y fields of 30 R132 (a), (c), (d) and (e). -/
theorem YField.ofCode_eq_none : ∀ (sel : BitVec 2) (c : BitVec 4), YField.ofCode sel c = none ↔
    sel = 3 ∨ (sel = 0 ∧ 6 ≤ c.toNat) ∨ (sel = 1 ∧ 13 ≤ c.toNat) ∨ (sel = 2 ∧ 4 ≤ c.toNat) := by decide

/-- The X and Z fields of 30 R132 (b), (f), (g) and (h). -/
theorem XZField.ofCode_eq_none (sel : BitVec 2) (fX fZ : BitVec 4) : XZField.ofCode sel fX fZ = none ↔
    sel = 3 ∨ (sel ≠ 2 ∧ 11 ≤ fX.toNat) ∨ (sel = 0 ∧ 12 ≤ fZ.toNat) ∨ (sel = 1 ∧ 4 ≤ fZ.toNat) := by
  rw [← FXFn.ofCode_eq_none, ← ZField.ofNormalCode_eq_none, ← IOFn.ofCode_eq_none]
  obtain rfl | rfl | rfl | rfl : sel = 0#2 ∨ sel = 1#2 ∨ sel = 2#2 ∨ sel = 3#2 := by revert sel; decide
  · cases hx : FXFn.ofCode fX <;> cases hz : ZField.ofNormalCode fZ <;> simp [XZField.ofCode, hx, hz]
  · cases hx : FXFn.ofCode fX <;> cases hz : IOFn.ofCode fZ <;> simp [XZField.ofCode, hx, hz]
  · simp [XZField.ofCode]
  · simp [XZField.ofCode]

/-- A word with two IB reads, by its fields (30 R133). -/
theorem doubleIBRead_iff (m : Microword) : m.doubleIBRead = true ↔
    (m.xz.sel ≠ 2 ∧ (m.xz.fX.toNat = 3 ∨ m.xz.fX.toNat = 4)) ∧ m.y.sel = 1 ∧
      (m.y.code.toNat = 10 ∨ m.y.code.toNat = 11) := by
  have hx : m.readsIBFront = true ↔ m.xz.sel ≠ 2 ∧ (m.xz.fX.toNat = 3 ∨ m.xz.fX.toNat = 4) := by
    unfold Microword.readsIBFront
    cases m.xz with
    | lit b => simp [XZField.xFn, XZField.sel]
    | fn x z => cases x <;> cases z <;> simp [XZField.xFn, XZField.sel, XZField.fX, ZField.sel, FXFn.code]
  have hy : (m.ibDispatch || m.forceDisp) = true ↔ m.y.sel = 1 ∧ (m.y.code.toNat = 10 ∨ m.y.code.toNat = 11) := by
    unfold Microword.ibDispatch Microword.forceDisp
    cases m.y with
    | bd f => cases f <;> simp [YField.sel, YField.code, BDFn.code]
    | fy f | io f => simp [YField.sel]
  rw [Microword.doubleIBRead, Bool.and_eq_true, hx, hy]

/-- The words of 30 R132 and R133: what the decoder refuses. -/
theorem decodeMicroword_eq_none_iff (w : ControlWord) : decodeMicroword w = none ↔
    YField.ofCode (w.extractLsb' 26 2) (w.extractLsb' 20 4) = none ∨
    XZField.ofCode (w.extractLsb' 24 2) (w.extractLsb' 16 4) (w.extractLsb' 12 4) = none ∨
    (w.extractLsb' 24 2 ≠ 2 ∧ ((w.extractLsb' 16 4).toNat = 3 ∨ (w.extractLsb' 16 4).toNat = 4)) ∧
      w.extractLsb' 26 2 = 1 ∧ ((w.extractLsb' 20 4).toNat = 10 ∨ (w.extractLsb' 20 4).toNat = 11) := by
  unfold decodeMicroword
  cases hy : YField.ofCode (w.extractLsb' 26 2) (w.extractLsb' 20 4) with
  | none => simp
  | some y =>
    cases hxz : XZField.ofCode (w.extractLsb' 24 2) (w.extractLsb' 16 4) (w.extractLsb' 12 4) with
    | none => simp
    | some xz =>
      obtain ⟨hys, hyc⟩ := YField.sel_code_of_ofCode _ _ _ hy
      obtain ⟨hzs, hX, -⟩ := XZField.sel_codes_of_ofCode hxz
      rw [← hys, ← hyc, ← hzs, ← hX]
      simp only [ite_eq_left_iff, doubleIBRead_iff, reduceCtorEq, imp_false, not_not, false_or]

theorem decodeMicroword_eq_none_of_y {w : ControlWord}
    (h : YField.ofCode (w.extractLsb' 26 2) (w.extractLsb' 20 4) = none) : decodeMicroword w = none :=
  (decodeMicroword_eq_none_iff w).mpr (.inl h)

theorem decodeMicroword_eq_none_of_xz {w : ControlWord}
    (h : XZField.ofCode (w.extractLsb' 24 2) (w.extractLsb' 16 4) (w.extractLsb' 12 4) = none) :
    decodeMicroword w = none :=
  (decodeMicroword_eq_none_iff w).mpr (.inr (.inl h))

section
variable {val w : ControlWord}

/-! A word with the bits of a reserved row is invalid, row family by row family. -/

theorem decodeMicroword_of_yRow (h : w &&& 0x00000CF00000 = val)
    (hv : YField.ofCode (val.extractLsb' 26 2) (val.extractLsb' 20 4) = none) : decodeMicroword w = none :=
  decodeMicroword_eq_none_of_y (by rwa [extract_of_and_eq h (by decide), extract_of_and_eq h (by decide)])

theorem decodeMicroword_of_fSYRow (h : w &&& 0x00000C000000 = 0x00000C000000) : decodeMicroword w = none :=
  decodeMicroword_eq_none_of_y ((YField.ofCode_eq_none _ _).mpr (.inl (extract_of_and_eq h (by decide))))

theorem decodeMicroword_of_fSZRow (h : w &&& 0x000003000000 = 0x000003000000) : decodeMicroword w = none :=
  decodeMicroword_eq_none_of_xz ((XZField.ofCode_eq_none _ _ _).mpr (.inl (extract_of_and_eq h (by decide))))

/-- A Z-selector whose high bit is clear is not the literal's. -/
theorem fSZ_ne_lit {mask : ControlWord} (h : w &&& mask = val) (hm : mask.extractLsb' 25 1 = BitVec.allOnes 1)
    (hv : val.extractLsb' 25 1 = 0#1) : w.extractLsb' 24 2 ≠ 2 := by
  intro hs
  have hb : (w.extractLsb' 24 2).extractLsb' 1 1 = 0#1 :=
    (extract_extract w (by decide)).trans ((extract_of_and_eq h hm).trans hv)
  rw [hs] at hb
  exact absurd hb (by decide)

/-- The X field is a code where the Z-selector is neither the literal's nor reserved (30 R123). -/
theorem fSZ_high_of_ne_lit (h₃ : w.extractLsb' 24 2 ≠ 3) (h₂ : w.extractLsb' 24 2 ≠ 2) :
    w.extractLsb' 25 1 = 0#1 := by
  have hb : (w.extractLsb' 24 2).extractLsb' 1 1 = w.extractLsb' 25 1 := extract_extract w (by decide)
  rw [← hb]
  revert h₂ h₃
  generalize w.extractLsb' 24 2 = s
  revert s
  decide

theorem decodeMicroword_of_xRow (h : w &&& 0x0000020F0000 = val) (hs : val.extractLsb' 25 1 = 0#1)
    (hv : 11 ≤ (val.extractLsb' 16 4).toNat) : decodeMicroword w = none := by
  refine decodeMicroword_eq_none_of_xz ((XZField.ofCode_eq_none _ _ _).mpr (.inr (.inl ?_)))
  exact ⟨fSZ_ne_lit h (by decide) hs, by rwa [extract_of_and_eq h (by decide)]⟩

theorem decodeMicroword_of_zRow (h : w &&& 0x00000300F000 = val)
    (hv : ∀ fX, XZField.ofCode (val.extractLsb' 24 2) fX (val.extractLsb' 12 4) = none) : decodeMicroword w = none :=
  decodeMicroword_eq_none_of_xz (by
    rw [extract_of_and_eq h (k := 24) (by decide), extract_of_and_eq h (k := 12) (by decide), hv])

theorem decodeMicroword_of_doubleRow (h : w &&& 0x00000EFF0000 = val) (hs : val.extractLsb' 25 1 = 0#1)
    (hx : (val.extractLsb' 16 4).toNat = 3 ∨ (val.extractLsb' 16 4).toNat = 4)
    (hy : val.extractLsb' 26 2 = 1)
    (hd : (val.extractLsb' 20 4).toNat = 10 ∨ (val.extractLsb' 20 4).toNat = 11) : decodeMicroword w = none := by
  refine (decodeMicroword_eq_none_iff w).mpr (.inr (.inr ⟨⟨fSZ_ne_lit h (by decide) hs, ?_⟩, ?_⟩))
  · rwa [extract_of_and_eq h (by decide)]
  · rw [extract_of_and_eq h (by decide), extract_of_and_eq h (by decide)]
    exact ⟨hy, hd⟩

end

/-- No row gives a meaning to the bits of a reserved row: they are an invalid word. -/
theorem decodeMicroword_of_body_invalid {i : Instr} {w : ControlWord} (hb : i.body = .invalid w) :
    decodeMicroword w = none := by
  have hrow := encodingHasItsTableRowsBits i
  have he : encode i = w := by rw [encode, hb]
  rw [he] at hrow
  cases i <;> simp only [Instr.tableRow] at hrow
  case fsyReserved3 => exact decodeMicroword_of_fSYRow hrow
  case fszReserved3 => exact decodeMicroword_of_fSZRow hrow
  case fyReserved6 | fyReserved7 | fyReserved8 | fyReserved9 | fyReserved10 | fyReserved11 | fyReserved12 |
      fyReserved13 | fyReserved14 | fyReserved15 | bdReserved13 | bdReserved14 | bdReserved15 | ioYReserved4 |
      ioYReserved5 | ioYReserved6 | ioYReserved7 | ioYReserved8 | ioYReserved9 | ioYReserved10 | ioYReserved11 |
      ioYReserved12 | ioYReserved13 | ioYReserved14 | ioYReserved15 =>
    exact decodeMicroword_of_yRow hrow (by decide)
  case fxReserved11 | fxReserved12 | fxReserved13 | fxReserved14 | fxReserved15 =>
    exact decodeMicroword_of_xRow hrow (by decide) (by decide)
  case fzReserved12 | fzReserved13 | fzReserved14 | fzReserved15 | ioZReserved4 | ioZReserved5 | ioZReserved6 |
      ioZReserved7 | ioZReserved8 | ioZReserved9 | ioZReserved10 | ioZReserved11 | ioZReserved12 | ioZReserved13 |
      ioZReserved14 | ioZReserved15 =>
    exact decodeMicroword_of_zRow hrow (by decide)
  case invalidBusIBIBDisp | invalidBusIBAlwaysIBDisp | invalidBusIBNAIBDisp | invalidBusIBNAAlwaysIBDisp =>
    exact decodeMicroword_of_doubleRow hrow (by decide) (by decide) (by decide) (by decide)
  all_goals exact Body.noConfusion hb

/-! ### Naming an invalid word -/

section
variable {w : ControlWord} {c : BitVec 4}

theorem nameReservedFY_names (hrow : w &&& 0x00000CF00000 = fieldBits 26 0#2 ||| fieldBits 20 c)
    (hc : 6 ≤ c.toNat) : Names (.invalid w) (nameReservedFY w c) := by
  unfold nameReservedFY
  split
  case h_10 =>
    simp only [imp_false] at *
    obtain rfl : c = 15#4 := by bv_omega
    exact ⟨rfl, decide_eq_true (hrow.trans (by decide))⟩
  all_goals exact ⟨rfl, decide_eq_true (hrow.trans (by decide))⟩

theorem nameReservedBD_names (hrow : w &&& 0x00000CF00000 = fieldBits 26 1#2 ||| fieldBits 20 c)
    (hc : 13 ≤ c.toNat) : Names (.invalid w) (nameReservedBD w c) := by
  unfold nameReservedBD
  split
  case h_3 =>
    simp only [imp_false] at *
    obtain rfl : c = 15#4 := by bv_omega
    exact ⟨rfl, decide_eq_true (hrow.trans (by decide))⟩
  all_goals exact ⟨rfl, decide_eq_true (hrow.trans (by decide))⟩

theorem nameReservedIOY_names (hrow : w &&& 0x00000CF00000 = fieldBits 26 2#2 ||| fieldBits 20 c)
    (hc : 4 ≤ c.toNat) : Names (.invalid w) (nameReservedIOY w c) := by
  unfold nameReservedIOY
  split
  case h_12 =>
    simp only [imp_false] at *
    obtain rfl : c = 15#4 := by bv_omega
    exact ⟨rfl, decide_eq_true (hrow.trans (by decide))⟩
  all_goals exact ⟨rfl, decide_eq_true (hrow.trans (by decide))⟩

theorem nameReservedFX_names (hrow : w &&& 0x0000020F0000 = fieldBits 25 0#1 ||| fieldBits 16 c)
    (hc : 11 ≤ c.toNat) : Names (.invalid w) (nameReservedFX w c) := by
  unfold nameReservedFX
  split
  case h_5 =>
    simp only [imp_false] at *
    obtain rfl : c = 15#4 := by bv_omega
    exact ⟨rfl, decide_eq_true (hrow.trans (by decide))⟩
  all_goals exact ⟨rfl, decide_eq_true (hrow.trans (by decide))⟩

theorem nameReservedFZ_names (hrow : w &&& 0x00000300F000 = fieldBits 24 0#2 ||| fieldBits 12 c)
    (hc : 12 ≤ c.toNat) : Names (.invalid w) (nameReservedFZ w c) := by
  unfold nameReservedFZ
  split
  case h_4 =>
    simp only [imp_false] at *
    obtain rfl : c = 15#4 := by bv_omega
    exact ⟨rfl, decide_eq_true (hrow.trans (by decide))⟩
  all_goals exact ⟨rfl, decide_eq_true (hrow.trans (by decide))⟩

theorem nameReservedIOZ_names (hrow : w &&& 0x00000300F000 = fieldBits 24 1#2 ||| fieldBits 12 c)
    (hc : 4 ≤ c.toNat) : Names (.invalid w) (nameReservedIOZ w c) := by
  unfold nameReservedIOZ
  split
  case h_12 =>
    simp only [imp_false] at *
    obtain rfl : c = 15#4 := by bv_omega
    exact ⟨rfl, decide_eq_true (hrow.trans (by decide))⟩
  all_goals exact ⟨rfl, decide_eq_true (hrow.trans (by decide))⟩

theorem and_doubleMask (w : ControlWord) :
    w &&& 0x00000EFF0000 = w &&& 0x00000CF00000 ||| w &&& 0x0000020F0000 := by
  rw [← BitVec.and_or_distrib_left]
  congr 1

/-- The four words of 30 R133: each X code with each Y code. -/
theorem nameDoubleIBRead_names
    (hrow : w &&& 0x00000EFF0000 = (fieldBits 26 1#2 ||| fieldBits 20 (w.extractLsb' 20 4)) |||
      (fieldBits 25 0#1 ||| fieldBits 16 (w.extractLsb' 16 4)))
    (hx : (w.extractLsb' 16 4).toNat = 3 ∨ (w.extractLsb' 16 4).toNat = 4)
    (hd : (w.extractLsb' 20 4).toNat = 10 ∨ (w.extractLsb' 20 4).toNat = 11) :
    Names (.invalid w) (nameDoubleIBRead w) := by
  have hx' : w.extractLsb' 16 4 = 3#4 ∨ w.extractLsb' 16 4 = 4#4 :=
    hx.imp BitVec.eq_of_toNat_eq BitVec.eq_of_toNat_eq
  have hd' : w.extractLsb' 20 4 = 10#4 ∨ w.extractLsb' 20 4 = 11#4 :=
    hd.imp BitVec.eq_of_toNat_eq BitVec.eq_of_toNat_eq
  unfold nameDoubleIBRead
  obtain hX | hX := hx' <;> obtain hY | hY := hd'
  all_goals
    rw [hX, hY] at hrow ⊢
    exact ⟨rfl, decide_eq_true (hrow.trans (by decide))⟩

end

/-- The decoder's name for an invalid word carries it and has its row's bits. -/
theorem nameInvalid_names {w : ControlWord} (h : decodeMicroword w = none) : Names (.invalid w) (nameInvalid w) := by
  rw [decodeMicroword_eq_none_iff, YField.ofCode_eq_none, XZField.ofCode_eq_none] at h
  have hyRow := and_yMask w
  have hxRow := and_xMask w
  have hzRow := and_zMask w
  unfold nameInvalid
  dsimp only
  split
  · next hs => exact ⟨rfl, decide_eq_true ((and_fSYMask w).trans (by rw [hs]; decide))⟩
  split
  · next hs => exact ⟨rfl, decide_eq_true ((and_fSZMask w).trans (by rw [hs]; decide))⟩
  split
  · next hc => exact nameReservedFY_names (by rw [hyRow, hc.1]) hc.2
  split
  · next hc => exact nameReservedBD_names (by rw [hyRow, hc.1]) hc.2
  split
  · next hc => exact nameReservedIOY_names (by rw [hyRow, hc.1]) hc.2
  split
  · next hc =>
    exact nameReservedFX_names (by rw [hxRow, fSZ_high_of_ne_lit ‹_› hc.1]) hc.2
  split
  · next hc => exact nameReservedFZ_names (by rw [hzRow, hc.1]) hc.2
  split
  · next hc => exact nameReservedIOZ_names (by rw [hzRow, hc.1]) hc.2
  · obtain hyNone | hxzNone | ⟨⟨hs, hx⟩, hy, hd⟩ := h
    · obtain h | h | h | h := hyNone <;> contradiction
    · obtain h | h | h | h := hxzNone <;> contradiction
    · have hsel : w.extractLsb' 26 2 = 1#2 := hy
      exact nameDoubleIBRead_names (by rw [and_doubleMask, hyRow, hxRow, hsel, fSZ_high_of_ne_lit ‹_› hs]) hx hd

end Sys2Proof
end

section
/-! Proofs that decoding and encoding agree (O1, O2, O3). -/

namespace Sys2Proof
open Machine Laws.CarriesItsWord

/-! ### The decoder -/

theorem decode_of_some {w : ControlWord} {m : Microword} (h : decodeMicroword w = some m) (ph : Phase) :
    decode ph w = nameWord ph m := by
  rw [decode, h]

theorem decode_of_none {w : ControlWord} (h : decodeMicroword w = none) (ph : Phase) :
    decode ph w = nameInvalid w := by
  rw [decode, h]

theorem encode_word {i : Instr} {m : Microword} (h : i.body = .word m) : encode i = m.encode := by
  rw [encode, h]

theorem encode_invalid {i : Instr} {w : ControlWord} (h : i.body = .invalid w) : encode i = w := by
  rw [encode, h]

/-- What a valid word decodes to: a well-formed term of that word (30 R133). -/
theorem decode_names_word {w : ControlWord} {m : Microword} (h : decodeMicroword w = some m) (ph : Phase) :
    Names (.word m) (decode ph w) := by
  rw [decode_of_some h]
  exact nameWord_names (doubleIBRead_eq_false_iff.mp (encode_of_decodeMicroword h).2) ph

theorem decode_names_invalid {w : ControlWord} (h : decodeMicroword w = none) (ph : Phase) :
    Names (.invalid w) (decode ph w) := by
  rw [decode_of_none h]
  exact nameInvalid_names h

/-- Settles O1: a valid word is the encoding of its fields, an invalid one is carried as it is. -/
theorem encodeOfDecodeIsTheWord : Obligations.EncodeOfDecodeIsTheWord := by
  intro ph w
  cases h : decodeMicroword w with
  | some m =>
    have hn := decode_names_word h ph
    exact ⟨(encode_word hn.body).trans (encode_of_decodeMicroword h).1, hn.2⟩
  | none =>
    have hn := decode_names_invalid h ph
    exact ⟨encode_invalid hn.body, hn.2⟩

/-- A well-formed word is what its bits decode to. -/
theorem decodeMicroword_encode_of_oneIBRead {m : Microword} (h : m.oneIBRead = true) :
    decodeMicroword m.encode = some m := by
  rw [decodeMicroword_encode, doubleIBRead_eq_false_iff.mpr h]
  rfl

/-- Settles O2: the bits of a well-formed term decode to its word, or are refused, whatever row names them. -/
theorem decodeOfEncodeDenotesTheSameWord : Obligations.DecodeOfEncodeDenotesTheSameWord := by
  intro ph i hwf
  cases hb : i.body with
  | word m =>
    rw [encode_word hb]
    have hr := oneIBRead_of_wf hwf hb
    exact (decode_names_word (decodeMicroword_encode_of_oneIBRead hr) ph).body
  | invalid w =>
    rw [encode_invalid hb]
    exact (decode_names_invalid (decodeMicroword_of_body_invalid hb) ph).body

/-! ### The rows that name all their words -/

/-- A row that the naming order gives its word is what the word's encoding decodes to. -/
theorem decode_encode_of_nameWord {ph : Phase} {i : Instr} {m : Microword} (hwf : i.wf = true)
    (hc : carried i = .word m) (hn : nameWord ph m = i) : decode ph (encode i) = i := by
  have hb : i.body = .word m := (body_eq_carried hwf).trans hc
  have hr := oneIBRead_of_wf hwf hb
  rw [encode_word hb, decode_of_some (decodeMicroword_encode_of_oneIBRead hr), hn]

theorem nameWord_bd {m : Microword} {f : BDFn} (h : m.y = .bd f) (ph : Phase) : nameWord ph m = nameBD m f := by
  rw [nameWord, h]

theorem nameWord_io {m : Microword} {f : IOFn} (h : m.y = .io f) (ph : Phase) : nameWord ph m = nameIOY m f := by
  rw [nameWord, h]

theorem nameWord_nop {m : Microword} (h : m.y = .fy .nop) (ph : Phase) : nameWord ph m = nameXZ ph m := by
  rw [nameWord, h]

theorem XZField.eq_fn_of_x? {xz : XZField} {x : FXFn} (h : xz.x? = some x) : ∃ z, xz = .fn x z := by
  cases xz with
  | fn x' z => exact ⟨z, congrArg (XZField.fn · z) (Option.some.inj h)⟩
  | lit b => exact absurd h (by simp [XZField.x?])

theorem XZField.eq_lit_of_isLit {xz : XZField} (h : xz.isLit = true) : ∃ b, xz = .lit b := by
  cases xz with
  | fn x z => exact absurd h (by simp [XZField.isLit])
  | lit b => exact ⟨b, rfl⟩

/-- The first conjunct of a row's well-formedness: the row's field. -/
theorem prop_of_decide_and {p : Prop} [Decidable p] {b : Bool} (h : (decide p && b) = true) : p :=
  of_decide_eq_true (Bool.and_eq_true_iff.mp h).1

/-- Settles O3: for each of these rows, well-formedness fixes the field by which the decoder names the word. -/
theorem decodeOfEncodeIsTheInstruction : Obligations.DecodeOfEncodeIsTheInstruction := by
  intro ph i hwf hnames
  cases i
  case bdNegBr o | bdZeroBr o | bdNZeroBr o | bdIntBr o | bdPgCarryBr o | bdCarryBr o | bdXRefBr o | bdNibCarryBr o |
      bdYDisp o | bdYIODisp o | bdIBDisp o | bdAlwaysIBDisp o | bdIBPtrDisp o =>
    exact decode_encode_of_nameWord hwf rfl (nameWord_bd (prop_of_decide_and hwf) ph)
  case ioYNOP o | ioYIOPOData o | ioYIOPCtl o | ioYDMADone o =>
    exact decode_encode_of_nameWord hwf rfl (nameWord_io (prop_of_decide_and hwf) ph)
  case fyBlock o | fyMap o =>
    exact decode_encode_of_nameWord hwf rfl (by rw [nameWord, prop_of_decide_and hwf])
  case fxBusU o | fxBusRH o | fxBusIB o | fxBusIBNA o | fxBusIOP o | fxBusLink o | fxBusErr o | fxRHWrite o |
      fxIBLoad o | fxClrIntErr o =>
    have hy := of_decide_eq_true hnames
    obtain ⟨z, hxz⟩ := XZField.eq_fn_of_x? (prop_of_decide_and hwf)
    exact decode_encode_of_nameWord hwf rfl (by rw [nameWord_nop hy, nameXZ, hxz])
  case lit o =>
    have hy := of_decide_eq_true hnames
    obtain ⟨b, hxz⟩ := XZField.eq_lit_of_isLit (Bool.and_eq_true_iff.mp hwf).1
    exact decode_encode_of_nameWord hwf rfl (by rw [nameWord_nop hy, nameXZ, hxz])
  all_goals exact absurd hnames Bool.false_ne_true

end Sys2Proof
end

section
/-! Proofs about invalid words at the machine (O5, O6) and the derived values of a word (O7). -/

namespace Sys2Proof
open Machine

/-! ### Invalid words at the machine -/

/-- A word with two IB reads stops as an invalid word does (30 R133). -/
theorem runWord_of_doubleIBRead {m : Microword} {t : Task} {s : State} (hc : s.cur = some t)
    (h : m.doubleIBRead = true) : runWord m s = .fault .invalidControlWord := by
  simp only [runWord, hc, h, if_true]

/-- An IBLoad without room is the host fault of 41 R213. -/
theorem runWord_of_noRoom {m : Microword} {t : Task} {s : State} (hc : s.cur = some t)
    (h : m.doubleIBRead = false) (hi : ibNext m t s = none) : runWord m s = .fault .ibOverflow := by
  simp only [runWord, hc, h, hi]
  rfl

/-- A word that reads the IB at most once does not stop as an invalid word does. -/
theorem runWord_ne_invalidControlWord {m : Microword} (h : m.doubleIBRead = false) (s : State) :
    runWord m s ≠ .fault .invalidControlWord := by
  cases hc : s.cur with
  | none => simp [runWord_idle m hc]
  | some t =>
    cases hi : ibNext m t s with
    | none => simp [runWord_of_noRoom hc h hi]
    | some ib => simp [runWord_commit hc h hi]

theorem exec_decode_invalid_iff (ph : Phase) (w : ControlWord) (s : State) :
    exec (decode ph w) s = .fault .invalidControlWord ↔ decodeMicroword w = none := by
  cases h : decodeMicroword w with
  | none => exact iff_of_true (exec_invalid (decode_names_invalid h ph).body s) rfl
  | some m =>
    rw [exec_word (decode_names_word h ph).body]
    exact iff_of_false (runWord_ne_invalidControlWord (encode_of_decodeMicroword h).2 s) (by simp)

/-- The clauses of 30 R132, from the order of the fields to the order of the rule. -/
theorem or_clauses {a b p q i : Prop} : (a ∨ p) ∨ (b ∨ q) ∨ i ↔ a ∨ b ∨ p ∨ q ∨ i := by tauto

/-- Settles O5: the two field decoders and the combination rule refuse the words of clauses (a) to (i), and the
instruction of a refused word is the only one that stops as an invalid word. -/
theorem invalidWordsAreThoseOfTheRuleAndFault : Obligations.InvalidWordsAreThoseOfTheRuleAndFault := by
  intro w fSY fSZ fY fX fZ invalid
  have hnone : decodeMicroword w = none ↔ invalid := by
    rw [decodeMicroword_eq_none_iff, YField.ofCode_eq_none, XZField.ofCode_eq_none, or_clauses]
    simp only [or_assoc, invalid, fSY, fSZ, fY, fX, fZ]
  refine ⟨hnone, fun inp s t hcur hread => ?_⟩
  rw [executeClick_fetched hcur hread, exec_decode_invalid_iff, hnone]

/-- Settles O6: every arm of `exec` runs what its term denotes. -/
theorem reservedRowsFault : Obligations.ReservedRowsFault :=
  fun _ _ s h => exec_invalid h s

/-! ### Derived values (30 R134) -/

section
variable (m : Microword)

theorem qSel_eq : m.qSel =
    (decide (m.y.sel.toNat = 0) && (decide (m.y.code.toNat = 1) || decide (m.y.code.toNat = 3))) := by
  unfold Microword.qSel
  cases m.y with
  | fy f | bd f | io f => cases f <;> rfl

theorem cycle_eq : m.cycle =
    (decide (m.y.sel.toNat = 0) && (decide (m.y.code.toNat = 2) || decide (m.y.code.toNat = 3))) := by
  unfold Microword.cycle
  cases m.y with
  | fy f | bd f | io f => cases f <;> rfl

theorem dest_code : m.dest.code = m.aD.code ++ BitVec.ofBool (!m.qSel) := by
  unfold Microword.dest
  cases m.aD <;> cases m.qSel <;> rfl

theorem isShift_eq : m.isShift = (decide (m.aD.code.toNat = 2) || decide (m.aD.code.toNat = 3)) := by
  unfold Microword.isShift
  cases m.aD <;> rfl

theorem needsBus_eq : m.needsBus =
    (decide (m.aS.code.toNat = 5) || decide (m.aS.code.toNat = 6) || decide (m.aS.code.toNat = 7)) := by
  unfold Microword.needsBus
  cases m.aS <;> rfl

theorem ibDispatch_eq : m.ibDispatch = (decide (m.y.sel.toNat = 1) && decide (m.y.code.toNat = 10)) := by
  unfold Microword.ibDispatch
  cases m.y with
  | fy f | bd f | io f => cases f <;> rfl

theorem forceDisp_eq : m.forceDisp = (decide (m.y.sel.toNat = 1) && decide (m.y.code.toNat = 11)) := by
  unfold Microword.forceDisp
  cases m.y with
  | fy f | bd f | io f => cases f <;> rfl

theorem isMap_eq : m.isMap = (decide (m.y.sel.toNat = 0) && decide (m.y.code.toNat = 5)) := by
  unfold Microword.isMap
  cases m.y with
  | fy f | bd f | io f => cases f <;> rfl

theorem isBD_eq : m.isBD = decide (m.y.sel.toNat = 1) := by
  unfold Microword.isBD
  cases m.y <;> rfl

theorem FXFn.code_inj {x x' : FXFn} : x.code = x'.code ↔ x = x' :=
  ⟨fun h => Option.some.inj (by rw [← FXFn.ofCode_code x, h, FXFn.ofCode_code]), congrArg _⟩

/-- A Z field is its selector and its code (30 R121, R128, R130). -/
theorem ZField.eq_iff {z z' : ZField} : z = z' ↔ z.sel = z'.sel ∧ z.code = z'.code := by
  refine ⟨fun h => by rw [h]; exact ⟨rfl, rfl⟩, fun ⟨hs, hc⟩ => ?_⟩
  have h : XZField.ofCode z.sel FXFn.nop.code z.code = some (.fn .nop z) := XZField.ofCode_code (.fn .nop z)
  have h' : XZField.ofCode z'.sel FXFn.nop.code z'.code = some (.fn .nop z') := XZField.ofCode_code (.fn .nop z')
  rw [hs, hc, h'] at h
  exact (XZField.fn.inj (Option.some.inj h)).2.symm

/-- The Z-selector of a word with a Z field is not the literal's. -/
theorem ZField.sel_ne_lit (z : ZField) : z.sel ≠ 2#2 := by cases z <;> simp [ZField.sel]

/-- The X function of a word that runs one other than FX NOP, by its fields (30 R127). -/
theorem xFn_eq_iff {x : FXFn} (hx : x ≠ .nop) : m.xz.xFn = x ↔ m.xz.sel ≠ 2#2 ∧ m.xz.fX = x.code := by
  cases m.xz with
  | lit b => simp [XZField.xFn, XZField.sel, hx.symm]
  | fn x' z => simp [XZField.xFn, XZField.sel, XZField.fX, z.sel_ne_lit, FXFn.code_inj]

theorem xFn_eq_iff_toNat {x : FXFn} (hx : x ≠ .nop) :
    m.xz.xFn = x ↔ m.xz.sel.toNat ≠ 2 ∧ m.xz.fX.toNat = x.code.toNat := by
  rw [xFn_eq_iff m hx, Ne, BitVec.toNat_eq, BitVec.toNat_eq]
  rfl

theorem ibLoad_eq : m.ibLoad = (decide (m.xz.sel.toNat ≠ 2) && decide (m.xz.fX.toNat = 9)) := by
  rw [Microword.ibLoad, ← Bool.decide_and]
  exact decide_eq_decide.mpr (xFn_eq_iff_toNat m (by simp))

theorem ptrDecrement_eq : m.ptrDecrement = (decide (m.xz.sel.toNat ≠ 2) && decide (m.xz.fX.toNat = 3)) := by
  rw [Microword.ptrDecrement, ← Bool.decide_and]
  exact decide_eq_decide.mpr (xFn_eq_iff_toNat m (by simp))

/-- The Z function of a word that runs one other than FZ NOP, by its fields (30 R128, R130). -/
theorem zFn_eq_iff {z : ZField} (hz : z ≠ .nop) : m.xz.zFn = z ↔ m.xz.sel = z.sel ∧ m.xz.fZ = z.code := by
  cases m.xz with
  | lit b => simp [XZField.zFn, XZField.sel, hz.symm, z.sel_ne_lit.symm]
  | fn x z' => exact ZField.eq_iff

theorem zFn_eq_iff_toNat {z : ZField} (hz : z ≠ .nop) :
    m.xz.zFn = z ↔ m.xz.sel.toNat = z.sel.toNat ∧ m.xz.fZ.toNat = z.code.toNat := by
  rw [zFn_eq_iff m hz, BitVec.toNat_eq, BitVec.toNat_eq]

/-- A link operation, by the fields: a Link code and no branch or dispatch (43 R298). -/
theorem linkOp_eq : m.linkOp =
    (decide (m.xz.sel.toNat = 0) && decide (m.xz.fZ.toNat < 8) && decide (m.y.sel.toNat ≠ 1)) := by
  unfold Microword.linkOp
  rw [isBD_eq]
  cases m.xz with
  | lit b => rfl
  | fn x z =>
    cases z with
    | link low =>
      have hl : (ZField.link low).code.toNat < 8 := by revert low; decide
      simp [XZField.zFn, XZField.sel, XZField.fZ, ZField.sel, hl]
    | _ => rfl

end

/-- The boundary test, stack function by stack function (42 R256). -/
theorem stackTrap_eq (z : ZField) (sp : BitVec 4) : stackTrap z sp =
    ((decide (z = .push) && decide (sp = 15)) || (decide (z = .pop) && decide (sp = 0)) ||
      (decide (z = .pop2) && decide (sp.toNat ≤ 1))) := by
  have hle : (decide (sp = 0) || decide (sp = 1)) = decide (sp.toNat ≤ 1) := by revert sp; decide
  cases z <;> simp [stackTrap, ← hle]

/-- A word is a literal word where its Z-selector is 2, and its byte is the X and Z fields (30 R131). -/
theorem xz_of_sel_lit {xz : XZField} (h : xz.sel = 2#2) : xz = .lit (xz.fX ++ xz.fZ) := by
  have hx := XZField.ofCode_code xz
  rw [h] at hx
  exact (Option.some.inj hx).symm

/-- Settles O7: each derived value, read back from the bits of the word's encoding. -/
theorem derivedValuesAreFunctionsOfTheBits : Obligations.DerivedValuesAreFunctionsOfTheBits := by
  intro w m h
  obtain ⟨rfl, -⟩ := encode_of_decodeMicroword h
  have hbyte : m.encode.extractLsb' 12 8 = m.xz.fX ++ m.xz.fZ := by
    rw [← encode_fX, ← encode_fZ, BitVec.extractLsb'_append_extractLsb'_eq_extractLsb' (by decide)]
  have hconst : m.encode.extractLsb' 40 8 = m.rA ++ m.rB := by
    rw [← encode_rA, ← encode_rB, BitVec.extractLsb'_append_extractLsb'_eq_extractLsb' (by decide)]
  have hlink : m.encode.extractLsb' 0 4 = m.linkAddr := by
    rw [Microword.linkAddr, ← encode_inia, extract_extract _ (by decide)]
  dsimp only
  rw [hbyte, hconst, hlink, encode_mem, encode_aS, encode_aD, encode_fSY, encode_fSZ, encode_fY, encode_fX, encode_fZ]
  have hpush : m.xz.zFn = .push ↔ m.xz.sel.toNat = 0 ∧ m.xz.fZ.toNat = 9 := zFn_eq_iff_toNat m (by simp)
  have hpop : m.xz.zFn = .pop ↔ m.xz.sel.toNat = 0 ∧ m.xz.fZ.toNat = 10 := zFn_eq_iff_toNat m (by simp)
  have hpop2 : m.xz.zFn = .pop2 ↔ m.xz.sel.toNat = 0 ∧ m.xz.fZ.toNat = 11 := zFn_eq_iff_toNat m (by simp)
  refine ⟨qSel_eq m, cycle_eq m, dest_code m, isShift_eq m, needsBus_eq m, hpush, hpop, hpop2, fun sp => ?_,
    ibDispatch_eq m, forceDisp_eq m, ibLoad_eq m, ptrDecrement_eq m,
    fun hs => xz_of_sel_lit (BitVec.eq_of_toNat_eq hs), fun hs b hb => hs (by rw [hb]; rfl), rfl, rfl, linkOp_eq m,
    rfl, isMap_eq m⟩
  simp only [stackTrap_eq, hpush, hpop, hpop2]

end Sys2Proof
end

section
/-! Proofs about the completion of a word (O40), its parity (O37) and sample words (O8). -/

namespace Sys2Proof.Machine

/-! ### Completion -/

/-- An IB is left exactly when IBLoad has room after the consumption, or IB_OVERFLOW is Discard (41 R213). -/
theorem ibNext_isSome (m : Microword) (t : Task) (s : State) : (ibNext m t s).isSome =
    (!m.ibLoad || decide (s.params.ibOverflow = .discard) || decide (s.ib.length < 3) ||
      (decide (s.ib.length = 3) && consumesIB m t s)) := by
  rw [ibNext_eq]
  cases m.ibLoad with
  | false => rfl
  | true =>
    rw [if_pos rfl, ibAppend_eq, Bool.eq_iff_iff]
    cases consumesIB m t s <;> grind

theorem completes_eq (m : Microword) (t : Task) (s : State) :
    completes m t s = (!m.doubleIBRead && (ibNext m t s).isSome) := by
  rw [completes, ibNext_isSome, doubleIBRead_eq_not_oneIBRead, Bool.not_not]

/-- The operand pair of the statements is the pair of the model's operands (40 R151 to R158). -/
theorem operandPair_busD (m : Microword) (t : Task) (s : State) :
    operandPair m s (busD m t s) = (operandR m t s, operandS m s) := by
  unfold operandPair operandR operandS
  cases m.aS <;> rfl

theorem outY_eq (m : Microword) (t : Task) (s : State) :
    outY m t s = if m.dest = .rama then regA m s else outF m t s := by
  unfold outY
  cases m.dest <;> rfl

/-- A word's click stores the flags and the output of its ALU operation. -/
theorem commit_ranOn (m : Microword) (t : Task) (s : State) (ib : List Byte) :
    ranOn m s (commit m t s ib) (busD m t s) := by
  rw [ranOn, operandPair_busD]
  exact ⟨rfl, outY_eq m t s⟩

/-- Settles O40: the outcome of `runWord`, by the combination rule and the room for IBLoad. -/
theorem everyValidWordCompletes : Obligations.EveryValidWordCompletes := by
  intro i m s hb
  rw [exec_word hb]
  refine ⟨fun t hc => ⟨fun hcompletes => ?_, fun hr => ?_, fun hr hcompletes => ?_⟩, runWord_idle m⟩
  · rw [completes_eq, Bool.and_eq_true, Bool.not_eq_true'] at hcompletes
    obtain ⟨hd, hi⟩ := hcompletes
    obtain ⟨ib, hi⟩ := Option.isSome_iff_exists.mp hi
    exact ⟨commit m t s ib, (exec_word hb s).trans (runWord_commit hc hd hi), commit_ranOn m t s ib, hc, rfl⟩
  · exact runWord_of_doubleIBRead hc (by rw [doubleIBRead_eq_not_oneIBRead, hr]; rfl)
  · have hd := doubleIBRead_eq_false_iff.mpr hr
    rw [completes_eq, hd] at hcompletes
    exact runWord_of_noRoom hc hd (Option.not_isSome_iff_eq_none.mp (by simpa using hcompletes))

end Sys2Proof.Machine

namespace Sys2Proof

/-! ### Parity -/

/-- The recursion of the parity check is a count over the bit numbers. -/
theorem onesBelow_eq_countP (w : ControlWord) (n : Nat) :
    onesBelow w n = (List.range n).countP fun k => w.getLsbD k := by
  induction n with
  | zero => rfl
  | succ n ih => rw [onesBelow, List.range_succ, List.countP_append, ← ih, List.countP_singleton, Nat.add_comm]

/-- Settles O37: the check is of the count of ones. -/
theorem parityCheckCountsTheOnes : Obligations.ParityCheckCountsTheOnes := by
  intro w
  refine ⟨?_, ?_, rfl⟩ <;> rw [parityFails, onesBelow_eq_countP]

/-! ### Sample words -/

/-- Settles O8: the decoder runs on each word. -/
theorem sampleWordsDecodeToTheirInstruction : Obligations.SampleWordsDecodeToTheirInstruction := by
  unfold Obligations.SampleWordsDecodeToTheirInstruction
  decide

end Sys2Proof
end

section
/-! The completion of a row, and proofs about the operands of the ALU (O9, O13). -/

namespace Sys2Proof.Machine

/-! ### The state after a row -/

/-- A word that completes commits its click. -/
theorem runWord_of_completes {m : Microword} {t : Task} {s : State} (hc : s.cur = some t)
    (h : completes m t s = true) : ∃ ib, ibNext m t s = some ib ∧ runWord m s = .next (commit m t s ib) := by
  rw [completes_eq, Bool.and_eq_true, Bool.not_eq_true'] at h
  obtain ⟨hd, hi⟩ := h
  obtain ⟨ib, hi⟩ := Option.isSome_iff_exists.mp hi
  exact ⟨ib, hi, runWord_commit hc hd hi⟩

/-- A row whose word completes gives a next state with what every commit of that word has. -/
theorem givesNext_of_completes {i : Instr} {m : Microword} {t : Task} {s : State} {post : State → Prop}
    (hb : i.body = .word m) (hc : s.cur = some t) (h : completes m t s = true)
    (hpost : ∀ ib, post (commit m t s ib)) : givesNext i s post := by
  obtain ⟨ib, -, hr⟩ := runWord_of_completes hc h
  exact ⟨commit m t s ib, (exec_word hb s).trans hr, hpost ib⟩

/-- A word's click runs the ALU on any `r` and `v` that are its operands (40 R151 to R158, R175, R177). -/
theorem givesNext_of_operands {i : Instr} {m : Microword} {t : Task} {s : State} {r v : Word}
    (hb : i.body = .word m) (hc : s.cur = some t) (h : completes m t s = true)
    (hrv : operandPair m s (busD m t s) = (r, v)) : givesNext i s fun s' =>
      s'.flags = aluFlags s.params.logicCarry m.aF r v m.cin ∧
        s'.ylatch = if m.dest = .rama then s.rf.read m.rA else aluResult m.aF r v m.cin :=
  givesNext_of_completes hb hc h fun ib => by
    have hran := commit_ranOn m t s ib
    rwa [ranOn, hrv] at hran

/-- A row with the source pair `p` runs its word's function on the pair's operands. -/
theorem givesNext_asSrc {i : Instr} {p : SrcPair} {o : Microword} {t : Task} {s : State} {r v : Word}
    (hb : i.body = .word (o.asSrc p)) (hc : s.cur = some t) (h : completes (o.asSrc p) t s = true)
    (hrv : operandPair (o.asSrc p) s (busD o t s) = (r, v)) : givesNext i s fun s' =>
      s'.flags = aluFlags s.params.logicCarry o.aF r v o.cin ∧
        s'.ylatch = if o.dest = .rama then s.rf.read o.rA else aluResult o.aF r v o.cin :=
  givesNext_of_operands (m := o.asSrc p) hb hc h hrv

/-- Settles O9, by the operands of each source pair. -/
theorem sourceRowsPickTheirOperands : Obligations.SourceRowsPickTheirOperands := by
  intro o t s hc a b q d ran
  have row : ∀ {i : Instr} {p : SrcPair} {r v : Word}, i.body = .word (o.asSrc p) →
      operandPair (o.asSrc p) s d = (r, v) → completes (o.asSrc p) t s = true → givesNext i s (ran r v) :=
    fun hb hrv h => givesNext_asSrc hb hc h hrv
  exact ⟨row rfl rfl, row rfl rfl, row rfl rfl, row rfl rfl, row rfl rfl, row rfl rfl, row rfl rfl, row rfl rfl⟩

/-! ### No hidden history -/

/-- A word reads neither the stored flags nor the Y latch, and its click replaces both. -/
theorem runWord_with_flags_ylatch (m : Microword) {t : Task} {s : State} (fl : Flags) (y : Word)
    (hc : s.cur = some t) : runWord m { s with flags := fl, ylatch := y } = runWord m s := by
  have hc' : { s with flags := fl, ylatch := y }.cur = some t := hc
  have hib : ibNext m t { s with flags := fl, ylatch := y } = ibNext m t s := rfl
  cases hd : m.doubleIBRead with
  | true => rw [runWord_of_doubleIBRead hc' hd, runWord_of_doubleIBRead hc hd]
  | false =>
    cases hi : ibNext m t s with
    | none => rw [runWord_of_noRoom hc' hd (hib.trans hi), runWord_of_noRoom hc hd hi]
    | some ib =>
      rw [runWord_commit hc' hd (hib.trans hi), runWord_commit hc hd hi]
      rfl

/-- Settles O13: the result and the flags are functions of the operands, the function and the carry-in, and `commit`
replaces what the last step stored. -/
theorem aluCarriesNoHiddenHistory : Obligations.AluCarriesNoHiddenHistory := by
  refine ⟨fun m n t k s s' hr hs hf hcin => ?_, fun i t s fl y hc => ?_⟩
  · have hF : outF m t s = outF n k s' := by simp only [outF, hr, hs, hf, hcin]
    refine ⟨hF, fun hlc => ?_, fun hdest hA => ?_⟩
    · simp only [outFlags, hr, hs, hf, hcin, hlc]
    · simp only [outY_eq, regA, hF, hdest, hA]
  · cases hb : i.body with
    | word m => rw [exec_word hb, exec_word hb, runWord_with_flags_ylatch m fl y hc]
    | invalid w => rw [exec_invalid hb, exec_invalid hb]

end Sys2Proof.Machine
end

section
/-! The nibble chain of the ALU, and proofs about its carries, overflow and results (O11, O12). -/

namespace Sys2Proof.Machine

/-! ### The nibbles of a word -/

theorem getLsbD_nibble (v : Word) (k j : Nat) : (nibble v k).getLsbD j = (decide (j < 4) && v.getLsbD (4 * k + j)) :=
  BitVec.getLsbD_extractLsb' ..

theorem nibble_or (r s : Word) (k : Nat) : nibble (r ||| s) k = nibble r k ||| nibble s k := BitVec.extractLsb'_or

theorem nibble_and (r s : Word) (k : Nat) : nibble (r &&& s) k = nibble r k &&& nibble s k := BitVec.extractLsb'_and

theorem nibble_xor (r s : Word) (k : Nat) : nibble (r ^^^ s) k = nibble r k ^^^ nibble s k := BitVec.extractLsb'_xor

theorem nibble_not (r : Word) {k : Nat} (hk : k < 4) : nibble (~~~r) k = ~~~nibble r k := by
  refine BitVec.eq_of_getLsbD_eq fun j hj => ?_
  have hbit : 4 * k + j < 16 := by omega
  simp only [getLsbD_nibble, BitVec.getLsbD_not, hj, hbit, decide_true, Bool.true_and]

/-! ### The arithmetic chain -/

/-- The top bit of a number that has no bit above it. -/
theorem testBit_top {n i : Nat} (h : n < 2 * 2 ^ i) : n.testBit i = decide (2 ^ i ≤ n) := by
  by_cases hle : 2 ^ i ≤ n
  · rw [decide_eq_true hle]
    exact Nat.testBit_of_two_pow_le_and_two_pow_add_one_gt hle (by rwa [Nat.pow_succ, Nat.mul_comm])
  · rw [decide_eq_false hle]
    exact Nat.testBit_lt_two_pow (Nat.lt_of_not_le hle)

/-- The arithmetic table answers the carry out of bit 3, and that carry against the one into bit 3 (40 R169). -/
theorem arithTable_eq_carry (a b : BitVec 4) (c : Bool) :
    arithTable a b c = (BitVec.carry 4 a b c, BitVec.carry 3 a b c ^^ BitVec.carry 4 a b c) := by
  have hc := c.toNat_le
  have ha : a.toNat % 2 ^ 4 = a.toNat := Nat.mod_eq_of_lt a.isLt
  have hb : b.toNat % 2 ^ 4 = b.toNat := Nat.mod_eq_of_lt b.isLt
  have h4 : (a.toNat + b.toNat + c.toNat).testBit 4 = BitVec.carry 4 a b c := by
    rw [testBit_top (by omega), BitVec.carry, ha, hb]
  have h3 : (a.toNat % 8 + b.toNat % 8 + c.toNat).testBit 3 = BitVec.carry 3 a b c := testBit_top (by omega)
  rw [← h3, ← h4]
  rfl

/-- The carry through a piece of two words is the carry that enters it, carried on. -/
theorem carry_extractLsb' {w : Nat} (x y : BitVec w) (c : Bool) (i n : Nat) : ∀ j, j ≤ n →
    BitVec.carry j (x.extractLsb' i n) (y.extractLsb' i n) (BitVec.carry i x y c) = BitVec.carry (i + j) x y c
  | 0, _ => BitVec.carry_zero
  | j + 1, hj => by
    rw [BitVec.carry_succ, carry_extractLsb' x y c i n j (Nat.le_of_lt hj), ← Nat.add_assoc, BitVec.carry_succ,
      BitVec.getLsbD_extractLsb', BitVec.getLsbD_extractLsb', decide_eq_true (Nat.lt_of_succ_le hj), Bool.true_and,
      Bool.true_and]

/-- The carries of the arithmetic chain are those of the 16-bit sum (40 R168, R169). -/
theorem chainCarry_arith (r s : Word) (c : Bool) : ∀ k, chainCarry arithTable r s c k = BitVec.carry (4 * k) r s c
  | 0 => BitVec.carry_zero.symm
  | k + 1 => by
    rw [chainCarry, chainCarry_arith r s c k, arithTable_eq_carry]
    exact carry_extractLsb' r s c (4 * k) 4 4 (Nat.le_refl 4)

/-- The overflow of a nibble is the carry into its top bit against the carry out of it. -/
theorem chainOverflow_arith (r s : Word) (c : Bool) (k : Nat) : chainOverflow arithTable r s c k =
    (BitVec.carry (4 * k + 3) r s c ^^ BitVec.carry (4 * k + 4) r s c) := by
  rw [chainOverflow, chainCarry_arith, arithTable_eq_carry]
  exact congrArg₂ xor (carry_extractLsb' r s c (4 * k) 4 3 (by decide))
    (carry_extractLsb' r s c (4 * k) 4 4 (Nat.le_refl 4))

/-- A nibble of a sum is the sum of the nibbles and of the carry into them. -/
theorem nibble_add (r s : Word) (c : Bool) {k : Nat} (hk : k < 4) :
    nibble (r + s + (BitVec.ofBool c).setWidth 16) k =
      nibble r k + nibble s k + (BitVec.ofBool (BitVec.carry (4 * k) r s c)).setWidth 4 := by
  refine BitVec.eq_of_getLsbD_eq fun j hj => ?_
  have hbit : 4 * k + j < 16 := by omega
  have hcarry : BitVec.carry j (nibble r k) (nibble s k) (BitVec.carry (4 * k) r s c) =
      BitVec.carry (4 * k + j) r s c := carry_extractLsb' r s c (4 * k) 4 j (Nat.le_of_lt hj)
  simp only [getLsbD_nibble, BitVec.getLsbD_add_add_bool hj, BitVec.getLsbD_add_add_bool hbit, hcarry,
    decide_eq_true hj, Bool.true_and]

/-- A carry as a number. -/
theorem setWidth_ofBool (w : Nat) (c : Bool) : (BitVec.ofBool c).setWidth w = if c then 1#w else 0#w := by
  cases c
  · simp
  · exact BitVec.eq_of_toNat_eq (by simp)

/-! ### The arithmetic functions -/

/-- SUBR is ADD on the complement of R (40 R161). -/
theorem aluResult_subr (r s : Word) (c : Bool) : aluResult .subr r s c = aluResult .add (~~~r) s c :=
  congrArg (· + _) (BitVec.add_comm s (~~~r))

theorem aluFlags_subr (lc : LogicCarry) (r s : Word) (c : Bool) :
    aluFlags lc .subr r s c = aluFlags lc .add (~~~r) s c := by
  simp only [aluFlags, aluResult_subr]
  rfl

/-- SUBS is ADD on the complement of S (40 R162). -/
theorem aluResult_subs (r s : Word) (c : Bool) : aluResult .subs r s c = aluResult .add r (~~~s) c := rfl

theorem aluFlags_subs (lc : LogicCarry) (r s : Word) (c : Bool) :
    aluFlags lc .subs r s c = aluFlags lc .add r (~~~s) c := rfl

/-- The carries of ADD are the comparisons of the exact sums (40 R187). -/
theorem aluFlags_add_carries (lc : LogicCarry) (r s : Word) (c : Bool) :
    (aluFlags lc .add r s c).nc = decide (16 ≤ r.toNat % 16 + s.toNat % 16 + c.toNat) ∧
      (aluFlags lc .add r s c).pgc = decide (256 ≤ r.toNat % 256 + s.toNat % 256 + c.toNat) ∧
      (aluFlags lc .add r s c).co = decide (65536 ≤ r.toNat + s.toNat + c.toNat) := by
  have hr : r.toNat % 2 ^ 16 = r.toNat := Nat.mod_eq_of_lt r.isLt
  have hs : s.toNat % 2 ^ 16 = s.toNat := Nat.mod_eq_of_lt s.isLt
  have hco : BitVec.carry 16 r s c = decide (65536 ≤ r.toNat + s.toNat + c.toNat) := by
    rw [BitVec.carry, hr, hs]
  exact ⟨chainCarry_arith r s c 1, chainCarry_arith r s c 2, (chainCarry_arith r s c 4).trans hco⟩

/-- The sign rule, from the carries into and out of the sign bit. -/
theorem sign_rule (a b k : Bool) : (k ^^ a.atLeastTwo b k) = ((a == b) && ((a ^^ (b ^^ k)) != a)) := by
  revert a b k
  decide

/-- ADD overflows when its operands agree in sign and its result does not (40 R187). -/
theorem aluFlags_add_ovf (lc : LogicCarry) (r s : Word) (c : Bool) : (aluFlags lc .add r s c).ovf =
    ((r.getLsbD 15 == s.getLsbD 15) && ((aluResult .add r s c).getLsbD 15 != r.getLsbD 15)) := by
  have hovf : (aluFlags lc .add r s c).ovf = (BitVec.carry 15 r s c ^^ BitVec.carry 16 r s c) :=
    chainOverflow_arith r s c 3
  rw [hovf, BitVec.carry_succ 15, aluResult, BitVec.getLsbD_add_add_bool (by decide), sign_rule]

/-- A nibble of ADD's result is the nibble sum with the chain's carry (40 R187). -/
theorem nibble_aluResult_add (r s : Word) (c : Bool) {k : Nat} (hk : k < 4) :
    nibble (aluResult .add r s c) k =
      nibble r k + nibble s k + if chainCarry arithTable r s c k then 1 else 0 := by
  rw [aluResult, nibble_add r s c hk, chainCarry_arith, setWidth_ofBool]
  rfl

/-- Settles O11: SUBR and SUBS are ADD on a complement, and the logic functions act bit by bit. -/
theorem carryAndOverflowLaws : Obligations.CarryAndOverflowLaws := by
  intro lc r s c carries overflows
  refine ⟨aluFlags_add_carries lc r s c, ?_, ?_, aluFlags_add_ovf lc r s c, ?_, ?_,
    fun f => ⟨rfl, rfl, fun k hk => ?_⟩⟩
  · rw [aluFlags_subr]
    exact aluFlags_add_carries lc (~~~r) s c
  · exact aluFlags_add_carries lc r (~~~s) c
  · rw [aluFlags_subr, aluResult_subr]
    exact aluFlags_add_ovf lc (~~~r) s c
  · exact aluFlags_add_ovf lc r (~~~s) c
  · cases f with
    | add => exact nibble_aluResult_add r s c hk
    | subr =>
      rw [aluResult_subr, nibble_aluResult_add _ _ _ hk, nibble_not r hk, BitVec.add_comm (~~~nibble r k)]
      rfl
    | subs =>
      rw [aluResult_subs, nibble_aluResult_add _ _ _ hk, nibble_not s hk]
      rfl
    | or => exact nibble_or r s k
    | and => exact nibble_and r s k
    | notrs => rw [aluResult, nibble_and, nibble_not r hk]
    | exor => exact nibble_xor r s k
    | exnor => rw [aluResult, nibble_not _ hk, nibble_xor]

/-! ### Subtraction -/

/-- A complement and the carry-in subtract; without the carry-in the result is one less (40 R162). -/
theorem aluResult_subs_eq_sub (r s : Word) :
    aluResult .subs r s true = r - s ∧ aluResult .subs r s false = r - s - 1 := by
  simp only [aluResult, setWidth_ofBool, if_true, Bool.false_eq_true, if_false]
  constructor <;> bv_omega

/-- Settles O12: the exact sum with a complement reaches 2^16 where the difference is not negative. -/
theorem subtractionCarryMeansNoBorrow : Obligations.SubtractionCarryMeansNoBorrow := by
  intro lc r s
  obtain ⟨hsubr, hsubr'⟩ := aluResult_subs_eq_sub s r
  obtain ⟨hsubs, hsubs'⟩ := aluResult_subs_eq_sub r s
  obtain ⟨-, -, hco⟩ := aluFlags_add_carries lc (~~~r) s true
  obtain ⟨-, -, hco'⟩ := aluFlags_add_carries lc r (~~~s) true
  refine ⟨hsubr, ?_, hsubs, ?_, hsubr', hsubs'⟩
  · rw [aluFlags_subr, hco, decide_eq_true_iff, BitVec.toNat_not, Bool.toNat_true]
    omega
  · rw [aluFlags_subs, hco', decide_eq_true_iff, BitVec.toNat_not, Bool.toNat_true]
    omega

end Sys2Proof.Machine
end

section
/-! The nibble tables by their bits, and the proof about the functions' results and flags (O10). -/

namespace Sys2Proof.Machine

/-! ### The tables by their bits -/

theorem arithTable_eq_sum (a b : BitVec 4) (c : Bool) : arithTable a b c =
    (decide (16 ≤ a.toNat + b.toNat + c.toNat),
      decide (8 ≤ a.toNat % 8 + b.toNat % 8 + c.toNat) ^^ decide (16 ≤ a.toNat + b.toNat + c.toNat)) := by
  have ha : a.toNat % 2 ^ 4 = a.toNat := Nat.mod_eq_of_lt a.isLt
  have hb : b.toNat % 2 ^ 4 = b.toNat := Nat.mod_eq_of_lt b.isLt
  rw [arithTable_eq_carry, BitVec.carry, BitVec.carry, ha, hb]

/-- A nibble has a zero bit. -/
theorem ne_fifteen_eq_bits (x : BitVec 4) :
    decide (x ≠ 15#4) = !(x.getLsbD 3 && x.getLsbD 2 && x.getLsbD 1 && x.getLsbD 0) := by
  revert x
  decide

/-- A nibble has a one bit. -/
theorem ne_zero_eq_bits (x : BitVec 4) :
    decide (x ≠ 0#4) = (x.getLsbD 3 || x.getLsbD 2 || x.getLsbD 1 || x.getLsbD 0) := by
  revert x
  decide

/-! ### A function's row -/

/-- A row with the function `f`, whose table is `tab` and whose result is `x`: its flags are those of the table's chain
(40 R168, R175). -/
theorem givesNext_asAlu {i : Instr} {f : AluFn} {o : Microword} {t : Task} {s : State} {r v x : Word}
    {tab : NibbleTable} (hb : i.body = .word (o.asAlu f)) (hc : s.cur = some t)
    (h : completes (o.asAlu f) t s = true) (hrv : operandPair o s (busD o t s) = (r, v))
    (htab : tableOf s.params.logicCarry f = tab) (hx : aluResult f r v o.cin = x) : givesNext i s fun s' =>
      s'.flags = chainFlags tab (chainR f r) (chainS f v) o.cin x ∧
        s'.ylatch = if o.dest = .rama then s.rf.read o.rA else x := by
  subst htab hx
  exact givesNext_of_operands (m := o.asAlu f) hb hc h hrv

/-- Settles O10: the table of each function is that of its bit equations, on the complement of R for NOTRS and
EXOR. -/
theorem functionRowsGiveTheirResultAndFlags : Obligations.FunctionRowsGiveTheirResultAndFlags := by
  intro o t s hc r v c arith orEq andEq exnorEq onNotR logic gave
  have hcin : (BitVec.ofBool o.cin).setWidth 16 = c := setWidth_ofBool 16 o.cin
  have harith : arithTable = arith := funext₃ arithTable_eq_sum
  have hor : orTable = orEq := by
    funext a b k
    simp only [orTable, ne_fifteen_eq_bits, BitVec.getLsbD_or]
    rfl
  have hand : andTable = andEq := by
    funext a b k
    simp only [andTable, ne_zero_eq_bits, BitVec.getLsbD_and]
    rfl
  have hexnor : exnorTable = exnorEq := by
    funext a b k
    simp only [exnorTable, BitVec.getLsbD_or, BitVec.getLsbD_and]
    rfl
  have hnotrs : notrsTable = onNotR andEq := by rw [← hand]; rfl
  have hexor : exorTable = onNotR exnorEq := by rw [← hexnor]; rfl
  have hlogic : ∀ {f eqs rows}, tableOf .am2901 f = eqs → (∀ x, tableOf (.tables x) f = rowsTable (rows x)) →
      tableOf s.params.logicCarry f = logic eqs rows := by
    intro f eqs rows hdefault hrows
    dsimp only [logic]
    cases s.params.logicCarry with
    | am2901 => exact hdefault
    | tables x => exact hrows x
  have row : ∀ {i : Instr} {f : AluFn} {tab : NibbleTable} {x : Word}, i.body = .word (o.asAlu f) →
      tableOf s.params.logicCarry f = tab → aluResult f r v o.cin = x →
      completes (o.asAlu f) t s = true → givesNext i s (gave tab (chainR f r) (chainS f v) x) :=
    fun hb htab hx h => givesNext_asAlu hb hc h rfl htab hx
  exact ⟨row rfl harith (congrArg (r + v + ·) hcin), row rfl harith (congrArg (v + ~~~r + ·) hcin),
    row rfl harith (congrArg (r + ~~~v + ·) hcin), row rfl (hlogic hor fun _ => rfl) rfl,
    row rfl (hlogic hand fun _ => rfl) rfl, row rfl (hlogic hnotrs fun _ => rfl) rfl,
    row rfl (hlogic hexor fun _ => rfl) rfl, row rfl (hlogic hexnor fun _ => rfl) rfl⟩

end Sys2Proof.Machine
end

section
/-! What a destination writes, and the proof about the destinations' rows (O14). -/

namespace Sys2Proof.Machine

/-! ### Shifts and rotations by one, bit by bit -/

theorem getLsbD_shiftDown (fill : Bool) (v : Word) {i : Nat} (hi : i < 16) :
    (shiftDown fill v).getLsbD i = if i = 15 then fill else v.getLsbD (i + 1) := by
  rw [shiftDown, BitVec.getLsbD_append, BitVec.getLsbD_extractLsb']
  grind

theorem getLsbD_shiftUp (v : Word) (fill : Bool) {i : Nat} (hi : i < 16) :
    (shiftUp v fill).getLsbD i = if i = 0 then fill else v.getLsbD (i - 1) := by
  rw [shiftUp, BitVec.getLsbD_append, BitVec.getLsbD_extractLsb']
  grind

theorem getLsbD_rotateRight_one {w : Nat} (x : BitVec w) {i : Nat} (hw : 1 < w) (hi : i < w) :
    (x.rotateRight 1).getLsbD i = if i + 1 = w then x.getLsbD 0 else x.getLsbD (i + 1) := by
  rw [BitVec.getLsbD_rotateRight, Nat.mod_eq_of_lt hw]
  grind

theorem getLsbD_rotateLeft_one {w : Nat} (x : BitVec w) {i : Nat} (hw : 1 < w) (hi : i < w) :
    (x.rotateLeft 1).getLsbD i = if i = 0 then x.getLsbD (w - 1) else x.getLsbD (i - 1) := by
  rw [BitVec.getLsbD_rotateLeft, Nat.mod_eq_of_lt hw]
  grind

/-- A word whose own low bit enters at the top rotates. -/
theorem shiftDown_eq_rotateRight (v : Word) : shiftDown (v.getLsbD 0) v = v.rotateRight 1 := by
  refine BitVec.eq_of_getLsbD_eq fun i hi => ?_
  rw [getLsbD_shiftDown _ v hi, getLsbD_rotateRight_one v (by decide) hi]
  grind

theorem shiftUp_eq_rotateLeft (v : Word) : shiftUp v (v.getLsbD 15) = v.rotateLeft 1 := by
  refine BitVec.eq_of_getLsbD_eq fun i hi => ?_
  rw [getLsbD_shiftUp v _ hi, getLsbD_rotateLeft_one v (by decide) hi]

/-- A pair shifted right: the low bit of the upper word enters the lower word. -/
theorem getLsbD_shiftDown_pair (fill : Bool) (f q : Word) {i : Nat} (hi : i < 32) :
    (shiftDown fill f ++ shiftDown (f.getLsbD 0) q).getLsbD i =
      if i = 31 then fill else (f ++ q).getLsbD (i + 1) := by
  rw [BitVec.getLsbD_append, BitVec.getLsbD_append]
  by_cases h : i < 16
  · rw [if_pos h, getLsbD_shiftDown _ q h]
    grind
  · rw [if_neg h, getLsbD_shiftDown _ f (by omega)]
    grind

/-- A pair shifted left: the high bit of the lower word enters the upper word. -/
theorem getLsbD_shiftUp_pair (f q : Word) (fill : Bool) {i : Nat} (hi : i < 32) :
    (shiftUp f (q.getLsbD 15) ++ shiftUp q fill).getLsbD i = if i = 0 then fill else (f ++ q).getLsbD (i - 1) := by
  rw [BitVec.getLsbD_append, BitVec.getLsbD_append]
  by_cases h : i < 16
  · rw [if_pos h, getLsbD_shiftUp q _ h]
    grind
  · rw [if_neg h, getLsbD_shiftUp f _ (by omega)]
    grind

theorem shiftDown_pair_eq_rotateRight (f q : Word) :
    shiftDown (q.getLsbD 0) f ++ shiftDown (f.getLsbD 0) q = (f ++ q).rotateRight 1 := by
  refine BitVec.eq_of_getLsbD_eq fun i hi => ?_
  rw [getLsbD_shiftDown_pair _ f q hi, getLsbD_rotateRight_one _ (by decide) hi, BitVec.getLsbD_append (i := 0)]
  grind

theorem shiftDown_pair_eq_ushiftRight (f q : Word) :
    shiftDown false f ++ shiftDown (f.getLsbD 0) q = (f ++ q) >>> 1 := by
  refine BitVec.eq_of_getLsbD_eq fun i hi => ?_
  rw [getLsbD_shiftDown_pair _ f q hi, BitVec.getLsbD_ushiftRight]
  grind

theorem shiftUp_pair_eq_rotateLeft (f q : Word) :
    shiftUp f (q.getLsbD 15) ++ shiftUp q (f.getLsbD 15) = (f ++ q).rotateLeft 1 := by
  refine BitVec.eq_of_getLsbD_eq fun i hi => ?_
  rw [getLsbD_shiftUp_pair f q _ hi, getLsbD_rotateLeft_one _ (by decide) hi, BitVec.getLsbD_append (i := 32 - 1)]
  grind

theorem shiftUp_pair_eq_shiftLeft (f q : Word) :
    shiftUp f (q.getLsbD 15) ++ shiftUp q false = (f ++ q) <<< 1 := by
  refine BitVec.eq_of_getLsbD_eq fun i hi => ?_
  rw [getLsbD_shiftUp_pair f q _ hi, BitVec.getLsbD_shiftLeft]
  grind

/-! ### What a destination writes -/

/-- The destination of a control and a Q-select bit (30 R115). -/
def destOf : DestCtl → Bool → Dest
  | .none, q => if q then .qreg else .nop
  | .ram, q => if q then .rama else .ramf
  | .down, q => if q then .ramqd else .ramd
  | .up, q => if q then .ramqu else .ramu

theorem dest_eq_destOf (m : Microword) : m.dest = destOf m.aD m.qSel := by
  unfold Microword.dest
  cases m.aD <;> cases m.qSel <;> rfl

/-- From `s` to `s'` the destination `d` wrote Q, `RF[rB]` and Y, from F of the word, Q and the cycle bit
(40 R177 to R186). -/
def Wrote (d : Dest) (cycle : Bool) (m : Microword) (t : Task) (s s' : State) : Prop :=
  let f := outF m t s
  (s'.q = (destQ d f s.q.val cycle).elim s.q fun x => ⟨x, true⟩) ∧
    s'.rf = (destRF d f s.q.val cycle).elim s.rf (s.rf.write m.rB) ∧
    s'.ylatch = if d = .rama then regA m s else f

theorem rfNext_eq (m : Microword) (t : Task) (s : State) :
    rfNext m t s = (destRF m.dest (outF m t s) s.q.val m.cycle).elim s.rf (s.rf.write m.rB) := by
  unfold rfNext
  cases destRF m.dest (outF m t s) s.q.val m.cycle <;> rfl

theorem qNext_eq (m : Microword) (t : Task) (s : State) :
    qNext m t s = (destQ m.dest (outF m t s) s.q.val m.cycle).elim s.q fun x => ⟨x, true⟩ := by
  unfold qNext
  cases destQ m.dest (outF m t s) s.q.val m.cycle <;> rfl

/-- A word's click writes as its destination says. -/
theorem commit_wrote {m : Microword} {d : Dest} {cycle : Bool} (hd : m.dest = d) (hcy : m.cycle = cycle) (t : Task)
    (s : State) (ib : List Byte) : Wrote d cycle m t s (commit m t s ib) := by
  subst hd hcy
  exact ⟨qNext_eq m t s, rfNext_eq m t s, outY_eq m t s⟩

/-- The bit that enters a shift: a bit of F or Q where the word cycles, else zero. -/
theorem and_eq_ite (c b : Bool) : (c && b) = if c then b else false := by
  cases c <;> rfl

/-- The pair of `RF[b]` and Q after RAMQD: rotated where the word cycles, else shifted (40 R182, R186). -/
theorem pair_of_ramqd {rf rf' : RegFile 16 4} {q' : Slot 16} {b : BitVec 4} {f q : Word} {c : Bool}
    (hrf : rf' = rf.write b (shiftDown (c && q.getLsbD 0) f)) (hq : q' = ⟨shiftDown (f.getLsbD 0) q, true⟩) :
    (c = true → rf'.read b ++ q'.val = (f ++ q).rotateRight 1) ∧
      (c = false → rf'.read b ++ q'.val = (f ++ q) >>> 1) := by
  rw [hrf, hq, read_write_same]
  constructor
  · rintro rfl
    exact shiftDown_pair_eq_rotateRight f q
  · rintro rfl
    exact shiftDown_pair_eq_ushiftRight f q

/-- The pair of `RF[b]` and Q after RAMQU: rotated where the word cycles, else shifted (40 R184, R186). -/
theorem pair_of_ramqu {rf rf' : RegFile 16 4} {q' : Slot 16} {b : BitVec 4} {f q : Word} {c : Bool}
    (hrf : rf' = rf.write b (shiftUp f (q.getLsbD 15))) (hq : q' = ⟨shiftUp q (c && f.getLsbD 15), true⟩) :
    (c = true → rf'.read b ++ q'.val = (f ++ q).rotateLeft 1) ∧
      (c = false → rf'.read b ++ q'.val = (f ++ q) <<< 1) := by
  rw [hrf, hq, read_write_same]
  constructor
  · rintro rfl
    exact shiftUp_pair_eq_rotateLeft f q
  · rintro rfl
    exact shiftUp_pair_eq_shiftLeft f q

/-! ### The destinations' rows -/

theorem asDestQ_dest (c : DestCtl) (o : Microword) : (o.asDestQ c).dest = destOf c true := by
  rw [dest_eq_destOf]
  unfold Microword.asDestQ
  cases o.cycle <;> rfl

theorem asDestQ_cycle (c : DestCtl) (o : Microword) : (o.asDestQ c).cycle = o.cycle := by
  unfold Microword.asDestQ
  cases o.cycle <;> rfl

theorem asDest_dest (c : DestCtl) (o : Microword) : (o.asDest c).dest = destOf c false := by
  rw [dest_eq_destOf]
  unfold Microword.asDest Microword.qSel
  cases o.y with
  | fy f => cases f <;> rfl
  | bd f => rfl
  | io f => rfl

theorem asDest_cycle (c : DestCtl) (o : Microword) : (o.asDest c).cycle = o.cycle := by
  unfold Microword.asDest Microword.cycle
  cases o.y with
  | fy f => cases f <;> rfl
  | bd f => rfl
  | io f => rfl

/-- A row with the control `c` and the Q-select bit set writes as their destination says. -/
theorem givesNext_asDestQ {i : Instr} {c : DestCtl} {o : Microword} {t : Task} {s : State} {post : State → Prop}
    (hb : i.body = .word (o.asDestQ c)) (hc : s.cur = some t)
    (hpost : ∀ s', Wrote (destOf c true) o.cycle o t s s' → post s') (h : completes (o.asDestQ c) t s = true) :
    givesNext i s post :=
  givesNext_of_completes hb hc h fun ib => hpost _ (commit_wrote (asDestQ_dest c o) (asDestQ_cycle c o) t s ib)

/-- A row with the control `c` and the Q-select bit clear writes as their destination says. -/
theorem givesNext_asDest {i : Instr} {c : DestCtl} {o : Microword} {t : Task} {s : State} {post : State → Prop}
    (hb : i.body = .word (o.asDest c)) (hc : s.cur = some t)
    (hpost : ∀ s', Wrote (destOf c false) o.cycle o t s s' → post s') (h : completes (o.asDest c) t s = true) :
    givesNext i s post :=
  givesNext_of_completes hb hc h fun ib => hpost _ (commit_wrote (asDest_dest c o) (asDest_cycle c o) t s ib)

/-- Settles O14, by the destination that each row's control and Q-select bit form. -/
theorem destinationRowsWriteTheirRegisters : Obligations.DestinationRowsWriteTheirRegisters := by
  intro o t s hc f q b
  simp only [← and_eq_ite]
  exact ⟨givesNext_asDestQ rfl hc fun _ h => h,
    givesNext_asDest rfl hc fun _ h => h,
    givesNext_asDestQ rfl hc fun _ h => h,
    givesNext_asDest rfl hc fun _ h => h,
    givesNext_asDestQ rfl hc fun _ ⟨hq, hrf, hy⟩ => ⟨hrf, hq, hy, pair_of_ramqd hrf hq⟩,
    givesNext_asDest rfl hc fun _ ⟨hq, hrf, hy⟩ => ⟨hrf, hq, hy⟩,
    givesNext_asDestQ rfl hc fun _ ⟨hq, hrf, hy⟩ => ⟨hrf, hq, hy, pair_of_ramqu hrf hq⟩,
    givesNext_asDest rfl hc fun _ ⟨hq, hrf, hy⟩ => ⟨hrf, hq, hy⟩⟩

end Sys2Proof.Machine
end

section
/-! The word with its cycle bit and without it, and the proof about the CYCLE row (O15). -/

namespace Sys2Proof.Machine

/-! ### The word without its cycle bit -/

/-- The word of the same destination without the cycle bit: FY NOP, or FY QOp where it selected Q. -/
def withoutCycle (o : Microword) : Microword := o.asFY (if o.qSel then .qOp else .nop)

theorem body_withoutCycle (o : Microword) :
    (if o.qSel then Instr.fyQOp o else .fyNOP o).body = .word (withoutCycle o) := by
  unfold withoutCycle
  cases o.qSel <;> rfl

theorem asFY_doubleIBRead (f : FYFn) (o : Microword) : (o.asFY f).doubleIBRead = false :=
  Bool.and_false _

theorem asCycle_dest (o : Microword) : o.asCycle.dest = destOf o.aD o.qSel := by
  rw [dest_eq_destOf]
  unfold Microword.asCycle
  cases o.qSel <;> rfl

theorem asCycle_cycle (o : Microword) : o.asCycle.cycle = true := by
  unfold Microword.asCycle
  cases o.qSel <;> rfl

/-- The cycle bit does not reach the IB. -/
theorem ibNext_asCycle (o : Microword) (t : Task) (s : State) :
    ibNext o.asCycle t s = ibNext (withoutCycle o) t s := by
  unfold Microword.asCycle withoutCycle
  cases o.qSel <;> rfl

/-- Of the next state, the cycle bit reaches RF, Q and the trap register only. -/
theorem commit_asCycle (o : Microword) (t : Task) (s : State) (ib : List Byte) :
    commit o.asCycle t s ib =
      { commit (withoutCycle o) t s ib with
        rf := rfNext o.asCycle t s, q := qNext o.asCycle t s, trap := trapNext o.asCycle t s } := by
  unfold Microword.asCycle withoutCycle
  cases o.qSel <;> rfl

/-! ### The trap codes -/

theorem trapNext_eq (m : Microword) (t : Task) (s : State) :
    trapNext m t s = raiseTraps (trapsRaised m t s) (trapStart m s) := by
  unfold trapNext trapStart
  cases m.xz.xFn <;> rfl

/-- The codes above ControlStoreParity are the same whatever the parity. -/
theorem trapSet_getLsbD_of_pos (p p' e k b : Bool) {j : Nat} (hj : 1 ≤ j) :
    (trapSet p e k b).getLsbD j = (trapSet p' e k b).getLsbD j := by
  have hlow : ¬j < 1 := Nat.not_lt.mpr hj
  simp only [trapSet, BitVec.getLsbD_append, if_neg hlow]

/-- Of the trap codes, the cycle bit reaches the word's own parity only. -/
theorem trapsRaised_asCycle (o : Microword) (t : Task) (s : State) {j : Nat} (hj : 1 ≤ j) :
    (trapsRaised o.asCycle t s).getLsbD j = (trapsRaised (withoutCycle o) t s).getLsbD j := by
  have hmem : memErrTrap o.asCycle t s = memErrTrap (withoutCycle o) t s := by
    unfold Microword.asCycle withoutCycle
    cases o.qSel <;> rfl
  have hib : ibEmptyTrap o.asCycle s = ibEmptyTrap (withoutCycle o) s := by
    unfold Microword.asCycle withoutCycle
    cases o.qSel <;> rfl
  rw [trapsRaised, trapsRaised, hmem, hib]
  exact trapSet_getLsbD_of_pos _ _ _ _ _ hj

theorem trapNext_asCycle (o : Microword) (t : Task) (s : State) {j : Nat} (hj : 1 ≤ j) :
    (trapNext o.asCycle t s).errPending.getLsbD j = (trapNext (withoutCycle o) t s).errPending.getLsbD j := by
  have hstart : trapStart o.asCycle s = trapStart (withoutCycle o) s := rfl
  rw [trapNext_eq, trapNext_eq, raiseTraps_errPending, raiseTraps_errPending, BitVec.getLsbD_or, BitVec.getLsbD_or,
    trapsRaised_asCycle o t s hj, hstart]

/-! ### The registers -/

/-- A step writes no register of RF but `rB`. -/
theorem rfNext_other (m : Microword) (t : Task) (s : State) {j : BitVec 4} (hj : j ≠ m.rB) :
    (rfNext m t s).read j = s.rf.read j ∧ (rfNext m t s).peek j = s.rf.peek j := by
  rw [rfNext_eq]
  cases destRF m.dest (outF m t s) s.q.val m.cycle with
  | none => exact ⟨rfl, rfl⟩
  | some x => exact ⟨read_write_other s.rf m.rB j x hj, peek_write_other s.rf m.rB j x hj⟩

/-- Settles O15: the row and the word without the cycle bit commit the same click but for what the cycle bit
reaches. -/
theorem cycleRowRotates : Obligations.CycleRowRotates := by
  intro o t s hc hcomp f
  obtain ⟨ib, hib, hrun⟩ := runWord_of_completes hc hcomp
  have hrun0 : runWord (withoutCycle o) s = .next (commit (withoutCycle o) t s ib) :=
    runWord_commit hc (asFY_doubleIBRead _ o) (ibNext_asCycle o t s ▸ hib)
  obtain ⟨hq, hrf, -⟩ : Wrote (destOf o.aD o.qSel) true o t s (commit o.asCycle t s ib) :=
    commit_wrote (asCycle_dest o) (asCycle_cycle o) t s ib
  refine ⟨_, _, (exec_word rfl s).trans hrun, (exec_word (body_withoutCycle o) s).trans hrun0,
    commit_asCycle o t s ib, fun j hj => ?_, fun k hk => trapNext_asCycle o t s hk, trapNext_eq o.asCycle t s, rfl,
    fun ha => ?_, fun ha => ?_, fun ha hsel => ?_, fun ha hsel => ?_, fun ha hsel => ?_, fun ha hsel => ?_⟩
  · obtain ⟨hread, hpeek⟩ := rfNext_other o.asCycle t s hj
    obtain ⟨hread0, hpeek0⟩ := rfNext_other (withoutCycle o) t s hj
    exact ⟨hread.trans hread0.symm, hpeek.trans hpeek0.symm⟩
  · rw [hq, hrf, ha]
    cases o.qSel <;> exact ⟨rfl, rfl⟩
  · rw [hq, hrf, ha]
    cases o.qSel <;> exact ⟨rfl, rfl⟩
  · rw [hq, hrf, ha, hsel, ← shiftDown_eq_rotateRight]
    exact ⟨rfl, rfl⟩
  · rw [hq, hrf, ha, hsel, ← shiftUp_eq_rotateLeft]
    exact ⟨rfl, rfl⟩
  · rw [ha, hsel] at hq hrf
    obtain ⟨hpair, -⟩ := pair_of_ramqd (c := true) hrf hq
    exact hpair rfl
  · rw [ha, hsel] at hq hrf
    obtain ⟨hpair, -⟩ := pair_of_ramqu (c := true) hrf hq
    exact hpair rfl

end Sys2Proof.Machine
end

section
/-! What a word's fields do to the pieces of the state that a row of the X functions or a literal reaches: the IB that
its consumption leaves, RH, Link, the I/O channel, the traps and the memory event. -/

namespace Sys2Proof.Machine

/-! ### The instruction buffer -/

/-- The IB that a word's consumption leaves, before the append of IBLoad (45 R358 item 6). -/
def ibRest (m : Microword) (t : Task) (s : State) : List Byte :=
  if consumesIB m t s then s.ib.tail else s.ib

theorem dispatchByte_isSome (m : Microword) (t : Task) (s : State) :
    (dispatchByte m t s).isSome = (!s.ib.isEmpty && !cancelled m t s) := by
  unfold dispatchByte
  cases s.ib with
  | nil => rfl
  | cons b rest => cases cancelled m t s <;> rfl

/-- BusIB removes the front byte, and so does a dispatch that no page cross cancels (41 R207; 43 R292, R293). From an
Empty buffer there is nothing to remove. -/
theorem ibRest_eq (m : Microword) (t : Task) (s : State) : ibRest m t s =
    if m.xz.xFn = .busIB ∨ (m.y = .bd .ibDisp ∨ m.y = .bd .alwaysIBDisp) ∧ cancelled m t s = false
    then s.ib.tail else s.ib := by
  rw [ibRest, consumesIB, dispatchByte_isSome]
  cases s.ib with
  | nil => rw [List.tail_nil, ite_self, ite_self]
  | cons b rest => simp [Microword.ptrDecrement, Microword.ibDispatch, Microword.forceDisp]

/-- A word that is neither a BusIB nor a dispatch of the buffer leaves every byte there. -/
theorem ibRest_of_noRead {m : Microword} (t : Task) (s : State) (hx : m.xz.xFn ≠ .busIB) (hd : m.y ≠ .bd .ibDisp)
    (hf : m.y ≠ .bd .alwaysIBDisp) : ibRest m t s = s.ib := by
  rw [ibRest_eq, if_neg]
  rintro (h | ⟨h | h, -⟩) <;> contradiction

theorem ne_bd_of_isBD {m : Microword} (h : m.isBD = false) (f : BDFn) : m.y ≠ .bd f := by
  intro hy
  rw [Microword.isBD, hy] at h
  contradiction

theorem ibRest_of_noBD {m : Microword} (t : Task) (s : State) (hx : m.xz.xFn ≠ .busIB) (h : m.isBD = false) :
    ibRest m t s = s.ib :=
  ibRest_of_noRead t s hx (ne_bd_of_isBD h _) (ne_bd_of_isBD h _)

/-- A word without a dispatch of the buffer reads the IB at most once. -/
theorem doubleIBRead_of_noDispatch {m : Microword} (hd : m.y ≠ .bd .ibDisp) (hf : m.y ≠ .bd .alwaysIBDisp) :
    m.doubleIBRead = false := by
  rw [Microword.doubleIBRead, Microword.ibDispatch, Microword.forceDisp, decide_eq_false hd, decide_eq_false hf,
    Bool.or_false, Bool.and_false]

/-- A byte appended at the back moves the name of the IB's state on by one (10 R33). -/
theorem accIBState_append {s s' : State} {b : Byte} (h : s'.ib = s.ib ++ [b]) :
    (accIBState s = .empty → accIBState s' = .oneByte) ∧ (accIBState s = .oneByte → accIBState s' = .word) ∧
      (accIBState s = .word → accIBState s' = .full) := by
  have hlen : s'.ib.length = s.ib.length + 1 := by rw [h, List.length_append, List.length_singleton]
  rw [accIBState, accIBState, hlen]
  match s.ib.length with
  | 0 => decide
  | 1 => decide
  | 2 => decide
  | n + 3 => exact ⟨nofun, nofun, nofun⟩

/-! ### RH, Link and the next address -/

theorem rhNext_of_ne {m : Microword} (t : Task) (s : State) (h : m.xz.xFn ≠ .rhWrite) : rhNext m t s = s.rh := by
  unfold rhNext
  split
  next hx => exact absurd hx h
  next => rfl

theorem linkOp_of_zFn_nop {m : Microword} (h : m.xz.zFn = .nop) : m.linkOp = false := by
  rw [Microword.linkOp, h]

theorem linkNext_of_noLinkOp {m : Microword} (t : Task) (s : State) (h : m.linkOp = false) :
    linkNext m t s = s.link := by
  rw [linkNext, h]
  rfl

theorem nextAddr_of_noBD_noLinkOp {m : Microword} (t : Task) (s : State) (hbd : m.isBD = false)
    (hl : m.linkOp = false) : nextAddr m t s = m.inia := by
  unfold nextAddr
  split
  next f hy => exact absurd hy (ne_bd_of_isBD hbd f)
  next => rw [hl]; rfl

/-! ### The I/O channel -/

/-- Of the functions of a step only BusIOP reaches `iopReq`, and it clears it (41 R209). -/
theorem ioNext_iopReq (m : Microword) (t : Task) (s : State) :
    (ioNext m t s).iopReq = if m.xz.xFn = .busIOP then false else s.io.iopReq := by
  rw [ioNext, ioApply_iopReq, ioApply_iopReq]
  cases m.xz.xFn <;> rfl

/-- Without BusIOP and an I/O function the channel stays. -/
theorem ioNext_of_noIO {m : Microword} (t : Task) (s : State) (hx : m.xz.xFn ≠ .busIOP) (hy : ∀ f, m.y ≠ .io f)
    (hz : ∀ f, m.xz.zFn ≠ .io f) : ioNext m t s = s.io := by
  have hY : ioYFn m = .nop := by
    unfold ioYFn
    split
    next f h => exact absurd h (hy f)
    next => rfl
  have hZ : ioZFn m = .nop := by
    unfold ioZFn
    split
    next f h => exact absurd h (hz f)
    next => rfl
  rw [ioNext, hY, hZ, ioApply_nop, ioApply_nop]
  split
  next h => exact absurd h hx
  next => rfl

/-! ### Traps -/

theorem trapNext_of_ne {m : Microword} (t : Task) (s : State) (h : m.xz.xFn ≠ .clrIntErr) :
    trapNext m t s = raiseTraps (trapsRaised m t s) s.trap := by
  rw [trapNext_eq, trapStart, if_neg h]

/-- ClrIntErr leaves the traps of its own step and no other (60 R404). -/
theorem trapNext_of_clrIntErr {m : Microword} (t : Task) (s : State) (h : m.xz.xFn = .clrIntErr) :
    trapNext m t s = ⟨trapsRaised m t s, decide (trapsRaised m t s ≠ 0)⟩ := by
  rw [trapNext_eq, trapStart, if_pos h]
  exact congrArg₂ TrapRegs.mk BitVec.zero_or (Bool.false_or _)

/-- A trap code that the step raises is pending after it, with an interrupt request (60 R402). -/
theorem trapNext_of_raised {m : Microword} {t : Task} {s : State} {k : Nat}
    (h : (trapsRaised m t s).getLsbD k = true) :
    (trapNext m t s).errPending.getLsbD k = true ∧ (trapNext m t s).intReq = true := by
  have hne : trapsRaised m t s ≠ 0 := by
    intro h0
    rw [h0] at h
    exact Bool.false_ne_true (BitVec.getLsbD_zero.symm.trans h)
  rw [trapNext_eq, raiseTraps_errPending, raiseTraps_intReq, BitVec.getLsbD_or, h, decide_eq_true hne]
  exact ⟨Bool.or_true _, Bool.or_true _⟩

theorem trapsRaised_ibEmpty (m : Microword) (t : Task) (s : State) :
    (trapsRaised m t s).getLsbD 3 = ibEmptyTrap m s := by
  obtain ⟨-, -, -, h⟩ := trapSet_bits (parityFails s.params.parityMode m.encode) (memErrTrap m t s)
    (stackTrap m.xz.zFn s.stackP) (ibEmptyTrap m s)
  exact h

/-- The error code as it is read is the smallest pending code (60 R403). -/
theorem errRead_of_smallest {p : BitVec 4} {k : Nat} (hk : p.getLsbD k = true)
    (hmin : ∀ j, j < k → p.getLsbD j = false) : (errRead p).toNat = k := by
  have hlt : k < 4 := BitVec.lt_of_getLsbD hk
  unfold errRead
  match k with
  | 0 => rw [hk]; rfl
  | 1 => rw [hmin 0 (by decide), hk]; rfl
  | 2 => rw [hmin 0 (by decide), hmin 1 (by decide), hk]; rfl
  | 3 => rw [hmin 0 (by decide), hmin 1 (by decide), hmin 2 (by decide), hk]; rfl

/-! ### The memory event -/

theorem memEvent_latch {m : Microword} (t : Task) {s : State} (hm : m.mem = true) (hph : s.phase = .c1) :
    memEvent m t s = some (.latch (latchAddr m t s) m.isMap) := by
  rw [memEvent, if_pos hm, hph]

/-- A suppressed step emits no data phase (44 R326). -/
theorem memEvent_of_suppressed {m : Microword} {t : Task} {s : State} (h : suppressed m t s = true)
    (hph : s.phase ≠ .c1) : memEvent m t s = none := by
  rw [memEvent, h, ite_eq_right_iff]
  intro _
  cases hp : s.phase with
  | c1 => contradiction
  | c2 => rfl
  | c3 => rfl

/-- Reading the front of an Empty buffer: IBEmpty is pending with a request, and the data phases do not happen
(60 R408; 44 R326). -/
theorem commit_of_ibEmptyTrap {m : Microword} {s : State} (t : Task) (ib : List Byte) (h : ibEmptyTrap m s = true) :
    (commit m t s ib).trap.errPending.getLsbD 3 = true ∧ (commit m t s ib).trap.intReq = true ∧
      (s.phase ≠ .c1 → (commit m t s ib).event = none) := by
  obtain ⟨hpending, hreq⟩ := trapNext_of_raised ((trapsRaised_ibEmpty m t s).trans h)
  have hsup : suppressed m t s = true := by rw [suppressed, h, Bool.or_true]
  exact ⟨hpending, hreq, memEvent_of_suppressed hsup⟩

/-! ### The state after a word -/

/-- A word that completes with the IB `ib` gives its commit with it. -/
theorem givesNext_of_ibNext {i : Instr} {m : Microword} {t : Task} {s : State} {ib : List Byte} {post : State → Prop}
    (hb : i.body = .word m) (hc : s.cur = some t) (hd : m.doubleIBRead = false) (hi : ibNext m t s = some ib)
    (hpost : post (commit m t s ib)) : givesNext i s post :=
  ⟨_, (exec_word hb s).trans (runWord_commit hc hd hi), hpost⟩

/-- A word that appends nothing gives its commit with the IB that its consumption leaves. -/
theorem givesNext_of_noLoad {i : Instr} {m : Microword} {t : Task} {s : State} {post : State → Prop}
    (hb : i.body = .word m) (hc : s.cur = some t) (hd : m.doubleIBRead = false) (hl : m.ibLoad = false)
    (hpost : post (commit m t s (ibRest m t s))) : givesNext i s post :=
  givesNext_of_ibNext hb hc hd (ibNext_noLoad t s hl) hpost

end Sys2Proof.Machine
end

section
/-! Proofs about the rows that choose the data bus, the X functions and the literal word (O17 to O21). -/

namespace Sys2Proof.Machine

/-! ### The data bus -/

/-- Settles O17: each row commits with the bus value of its X function. -/
theorem busRowsDriveTheDataBus : Obligations.BusRowsDriveTheDataBus := by
  intro o t s hc
  refine ⟨givesNext_of_noLoad rfl hc rfl rfl ⟨commit_ranOn (o.asFX .nop) t s _, rfl, ?_, ?_, ?_⟩,
    givesNext_of_noLoad rfl hc rfl rfl (commit_ranOn (o.asFX .busU) t s _),
    givesNext_of_noLoad rfl hc rfl rfl (commit_ranOn (o.asFX .busRH) t s _),
    givesNext_of_noLoad rfl hc rfl rfl ⟨commit_ranOn (o.asFX .busIOP) t s _, ?_, rfl⟩,
    givesNext_of_noLoad rfl hc rfl rfl (commit_ranOn (o.asFX .busLink) t s _),
    givesNext_of_noLoad rfl hc rfl rfl ⟨commit_ranOn (o.asFX .busErr) t s _, ?_, ?_, ?_⟩⟩
  · exact ioNext_iopReq (o.asFX .nop) t s
  · exact ibRest_of_noBD (m := o.asFX .nop) t s nofun
  · exact trapNext_of_ne (m := o.asFX .nop) t s nofun
  · exact ioNext_iopReq (o.asFX .busIOP) t s
  · intro h0
    have hbus : busD (o.asFX .busErr) t s = 4 := congrArg (fun p => (errRead p).setWidth 16) h0
    exact hbus ▸ commit_ranOn (o.asFX .busErr) t s _
  · intro k hk hmin
    have hbus : busD (o.asFX .busErr) t s = BitVec.ofNat 16 k := by
      rw [← errRead_of_smallest hk hmin, BitVec.ofNat_toNat]
      rfl
    exact hbus ▸ commit_ranOn (o.asFX .busErr) t s _
  · intro k hk
    rw [commit_trap, trapNext_of_ne t s (show (o.asFX .busErr).xz.xFn ≠ .clrIntErr from nofun),
      raiseTraps_errPending, BitVec.getLsbD_or, hk, Bool.true_or]

/-! ### The instruction buffer -/

theorem ibEmptyTrap_of_readsIBFront {m : Microword} {s : State} (hr : m.readsIBFront = true) (h : s.ib = []) :
    ibEmptyTrap m s = true := by
  rw [ibEmptyTrap, hr, h]
  rfl

theorem ibFront_cons {s : State} {b : Byte} {rest : List Byte} (h : s.ib = b :: rest) : ibFront s = b := by
  rw [ibFront, h]

/-- Settles O18, by the byte that stands in front or, on an Empty buffer, the trap. -/
theorem ibReadRowsReadTheFrontByte : Obligations.IBReadRowsReadTheFrontByte := by
  intro o t s hc hd hf
  refine ⟨givesNext_of_noLoad rfl hc (doubleIBRead_of_noDispatch hd hf) rfl ?_,
    givesNext_of_noLoad rfl hc (doubleIBRead_of_noDispatch hd hf) rfl ?_⟩
  · have hran := commit_ranOn (o.asFX .busIB) t s (ibRest (o.asFX .busIB) t s)
    have hib : ibRest (o.asFX .busIB) t s = s.ib.tail := by rw [ibRest_eq, if_pos (.inl rfl)]
    refine ⟨fun b rest hs => ⟨?_, ?_⟩, fun hs => ⟨⟨ibFront s, hran⟩, ?_, ?_⟩⟩
    · exact ibFront_cons hs ▸ hran
    · rw [commit_ib, hib, hs, List.tail_cons]
    · rw [commit_ib, hib, hs, List.tail_nil]
    · exact commit_of_ibEmptyTrap t _ (ibEmptyTrap_of_readsIBFront rfl hs)
  · have hran := commit_ranOn (o.asFX .busIBNA) t s (ibRest (o.asFX .busIBNA) t s)
    refine ⟨ibRest_of_noRead t s nofun hd hf, fun b rest hs => ?_, fun hs => ⟨⟨ibFront s, hran⟩, ?_⟩⟩
    · exact ibFront_cons hs ▸ hran
    · exact commit_of_ibEmptyTrap t _ (ibEmptyTrap_of_readsIBFront rfl hs)

/-- IBLoad appends to what the consumption of its step left, or does as IB_OVERFLOW says (41 R213). -/
theorem ibNext_of_ibLoad {m : Microword} (t : Task) (s : State) (h : m.ibLoad = true) :
    ibNext m t s = ibAppend s.params.ibOverflow (ibRest m t s) (lowByte (outY m t s)) := by
  rw [ibNext_eq, if_pos h, ibRest]

/-- Settles O19, by the room that the step's consumption leaves. -/
theorem ibLoadAppendsOrOverflows : Obligations.IBLoadAppendsOrOverflows := by
  intro o t s hc dispatches rest
  have hrest : ibRest (o.asFX .ibLoad) t s = rest := by
    rw [ibRest_eq]
    exact if_congr (or_iff_right nofun) rfl rfl
  have hnext : ibNext (o.asFX .ibLoad) t s =
      if rest.length < 3 then some (rest ++ [lowByte (outY (o.asFX .ibLoad) t s)])
      else if s.params.ibOverflow = .discard then some rest else none := by
    rw [ibNext_of_ibLoad t s rfl, hrest, ibAppend_eq]
  refine ⟨fun hroom => ?_, fun hfull hpol => ?_, fun hfull hpol => ?_⟩
  · rw [if_pos hroom] at hnext
    refine givesNext_of_ibNext rfl hc rfl hnext ⟨rfl, commit_ranOn (o.asFX .ibLoad) t s _, fun hnd => ?_⟩
    have hall : rest = s.ib := if_neg hnd
    exact accIBState_append (congrArg (· ++ _) hall)
  · rw [if_neg (Nat.not_lt.mpr hfull), hpol, if_neg nofun] at hnext
    exact (exec_word rfl s).trans (runWord_of_noRoom hc rfl hnext)
  · rw [if_neg (Nat.not_lt.mpr hfull), if_pos hpol] at hnext
    exact givesNext_of_ibNext rfl hc rfl hnext
      ⟨rfl, commit_ranOn (o.asFX .ibLoad) t s _, trapNext_of_ne (m := o.asFX .ibLoad) t s nofun⟩

/-! ### RHWrite and ClrIntErr -/

/-- Settles O20: the latch reads RH at the start of the step, and the clear comes before the step's own traps. -/
theorem rhWriteAndClrIntErr : Obligations.RHWriteAndClrIntErr := by
  intro o t s hc
  have htrap := trapNext_of_clrIntErr (m := o.asFX .clrIntErr) t s rfl
  refine ⟨givesNext_of_noLoad rfl hc rfl rfl ⟨rfl, commit_ranOn (o.asFX .rhWrite) t s _, fun hm hph => ?_⟩,
    givesNext_of_noLoad rfl hc rfl rfl ?_⟩
  · exact memEvent_latch (m := o.asFX .rhWrite) t hm hph
  · intro raised
    rw [accErr, commit_trap, htrap]
    exact ⟨rfl, rfl, commit_ranOn (o.asFX .clrIntErr) t s _, fun h0 =>
      ⟨congrArg errRead h0, decide_eq_false (not_not_intro h0)⟩⟩

/-! ### The literal word -/

theorem asLit_of_lit {o : Microword} {b : Byte} (h : o.xz = .lit b) : o.asLit = o := by
  rw [Microword.asLit, h]
  exact h ▸ rfl

/-- Settles O21: in a literal word the X function is FX NOP and the Z field FZ NOP. -/
theorem literalRowRunsNoXOrZFunction : Obligations.LiteralRowRunsNoXOrZFunction := by
  intro o b t s hc hlit
  have hx : o.xz.xFn = .nop := by rw [hlit]; rfl
  have hz : o.xz.zFn = .nop := by rw [hlit]; rfl
  have hbus : busD o t s = b.setWidth 16 := by rw [busD, hlit]; rfl
  have hne : ∀ f, f ≠ .nop → o.xz.xFn ≠ f := fun f hf => hx ▸ hf.symm
  have hbody : (Instr.lit o).body = .word o := congrArg Body.word (asLit_of_lit hlit)
  have hlink := linkOp_of_zFn_nop hz
  have hd : o.doubleIBRead = false := by rw [Microword.doubleIBRead, Microword.readsIBFront, hx]; rfl
  have hl : o.ibLoad = false := decide_eq_false (hne _ nofun)
  refine givesNext_of_noLoad hbody hc hd hl ⟨hbus ▸ commit_ranOn o t s _, rhNext_of_ne t s (hne _ nofun),
    linkNext_of_noLinkOp t s hlink, ?_, trapNext_of_ne t s (hne _ nofun), ?_, fun hbd => ⟨?_, ?_⟩, fun hy => ?_⟩
  · rw [commit_stackP, hz, stackNext_nop]
  · exact (ioNext_iopReq o t s).trans (if_neg (hne .busIOP nofun))
  · exact ibRest_of_noBD t s (hne _ nofun) hbd
  · rw [commit_tpc, PerTask.get_set_same, nextAddr_of_noBD_noLinkOp t s hbd hlink]
  · exact ioNext_of_noIO t s (hne _ nofun) hy fun f => by rw [hz]; nofun

end Sys2Proof.Machine
end

section
/-! The destinations that the Y functions choose, and the proof about the rows FY NOP, QOp, Cycle and QCycle (O16). -/

namespace Sys2Proof.Machine

/-! ### Shifts and rotations by one -/

/-- A right shift by one, or a rotation where the word cycles (40 R186). -/
def downOne {w : Nat} (cycle : Bool) (x : BitVec w) : BitVec w := if cycle then x.rotateRight 1 else x >>> 1

/-- A left shift by one, or a rotation where the word cycles (40 R186). -/
def upOne {w : Nat} (cycle : Bool) (x : BitVec w) : BitVec w := if cycle then x.rotateLeft 1 else x <<< 1

theorem shiftDown_eq_ushiftRight (v : Word) : shiftDown false v = v >>> 1 := by
  refine BitVec.eq_of_getLsbD_eq fun i hi => ?_
  rw [getLsbD_shiftDown _ v hi, BitVec.getLsbD_ushiftRight]
  grind

theorem shiftUp_eq_shiftLeft (v : Word) : shiftUp v false = v <<< 1 := by
  refine BitVec.eq_of_getLsbD_eq fun i hi => ?_
  rw [getLsbD_shiftUp v _ hi, BitVec.getLsbD_shiftLeft]
  grind

theorem shiftDown_eq_downOne (c : Bool) (v : Word) : shiftDown (c && v.getLsbD 0) v = downOne c v := by
  cases c with
  | true => exact shiftDown_eq_rotateRight v
  | false => exact shiftDown_eq_ushiftRight v

theorem shiftUp_eq_upOne (c : Bool) (v : Word) : shiftUp v (c && v.getLsbD 15) = upOne c v := by
  cases c with
  | true => exact shiftUp_eq_rotateLeft v
  | false => exact shiftUp_eq_shiftLeft v

theorem shiftDown_pair_eq_downOne (c : Bool) (f q : Word) :
    shiftDown (c && q.getLsbD 0) f ++ shiftDown (f.getLsbD 0) q = downOne c (f ++ q) := by
  cases c with
  | true => exact shiftDown_pair_eq_rotateRight f q
  | false => exact shiftDown_pair_eq_ushiftRight f q

theorem shiftUp_pair_eq_upOne (c : Bool) (f q : Word) :
    shiftUp f (q.getLsbD 15) ++ shiftUp q (c && f.getLsbD 15) = upOne c (f ++ q) := by
  cases c with
  | true => exact shiftUp_pair_eq_rotateLeft f q
  | false => exact shiftUp_pair_eq_shiftLeft f q

/-! ### The destinations that a Y function chooses -/

section
variable {o : Microword} {t : Task} {s s' : State} {c : Bool}

/-- What `aD` chooses with the Q-select bit clear: Q stays, and RF takes F, shifted or rotated (42 R241, R243). -/
theorem wrote_of_qSel_false (h : Wrote (destOf o.aD false) c o t s s') :
    s'.q = s.q ∧ s'.ylatch = outF o t s ∧ (o.aD = .none → s'.rf = s.rf) ∧
      (o.aD = .ram → s'.rf = s.rf.write o.rB (outF o t s)) ∧
      (o.aD = .down → s'.rf = s.rf.write o.rB (downOne c (outF o t s))) ∧
      (o.aD = .up → s'.rf = s.rf.write o.rB (upOne c (outF o t s))) := by
  obtain ⟨hq, hrf, hy⟩ := h
  rw [← shiftDown_eq_downOne, ← shiftUp_eq_upOne]
  cases ha : o.aD <;> rw [ha] at hq hrf hy
  case none => exact ⟨hq, hy, fun _ => hrf, nofun, nofun, nofun⟩
  case ram => exact ⟨hq, hy, nofun, fun _ => hrf, nofun, nofun⟩
  case down => exact ⟨hq, hy, nofun, nofun, fun _ => hrf, nofun⟩
  case up => exact ⟨hq, hy, nofun, nofun, nofun, fun _ => hrf⟩

/-- What `aD` chooses with the Q-select bit set: Q alone, RF with A on Y, or the pair of RF and Q (42 R242, R244). -/
theorem wrote_of_qSel_true (h : Wrote (destOf o.aD true) c o t s s') :
    (o.aD = .none → s'.rf = s.rf ∧ s'.q = ⟨outF o t s, true⟩ ∧ s'.ylatch = outF o t s) ∧
      (o.aD = .ram → s'.rf = s.rf.write o.rB (outF o t s) ∧ s'.q = s.q ∧ s'.ylatch = s.rf.read o.rA) ∧
      (o.aD = .down →
        s'.rf.read o.rB ++ s'.q.val = downOne c (outF o t s ++ s.q.val) ∧ s'.ylatch = outF o t s) ∧
      (o.aD = .up → s'.rf.read o.rB ++ s'.q.val = upOne c (outF o t s ++ s.q.val) ∧ s'.ylatch = outF o t s) := by
  obtain ⟨hq, hrf, hy⟩ := h
  rw [← shiftDown_pair_eq_downOne, ← shiftUp_pair_eq_upOne]
  cases ha : o.aD <;> rw [ha] at hq hrf hy
  case none => exact ⟨fun _ => ⟨hrf, hq, hy⟩, nofun, nofun, nofun⟩
  case ram => exact ⟨nofun, fun _ => ⟨hrf, hq, hy⟩, nofun, nofun⟩
  case down =>
    refine ⟨nofun, nofun, fun _ => ⟨?_, hy⟩, nofun⟩
    rw [hrf, hq]
    exact congrArg (· ++ _) (read_write_same _ _ _)
  case up =>
    refine ⟨nofun, nofun, nofun, fun _ => ⟨?_, hy⟩⟩
    rw [hrf, hq]
    exact congrArg (· ++ _) (read_write_same _ _ _)

end

/-- A row with Y function `f` writes as the destination says that `aD` and `f` choose. -/
theorem givesNext_asFY {i : Instr} {f : FYFn} {o : Microword} {t : Task} {s : State} {post : State → Prop}
    (hb : i.body = .word (o.asFY f)) (hc : s.cur = some t)
    (hpost : ∀ s', Wrote (destOf o.aD (o.asFY f).qSel) (o.asFY f).cycle o t s s' → post s')
    (h : completes (o.asFY f) t s = true) : givesNext i s post :=
  givesNext_of_completes hb hc h fun ib => hpost _ (commit_wrote (dest_eq_destOf (o.asFY f)) rfl t s ib)

/-- Settles O16, by the Q-select bit and the cycle bit of each Y function. -/
theorem fyRowsChooseTheDestination : Obligations.FYRowsChooseTheDestination := by
  intro o t s hc f q writes
  exact ⟨givesNext_asFY rfl hc fun _ h => wrote_of_qSel_false h,
    givesNext_asFY rfl hc fun _ h => wrote_of_qSel_true h,
    givesNext_asFY rfl hc fun _ h => wrote_of_qSel_false h,
    givesNext_asFY rfl hc fun _ h => wrote_of_qSel_true h⟩

end Sys2Proof.Machine
end

section
/-! The U registers, the stack, the I/O channel and the next address after a word, and proofs about ENSU, the stack rows
and the I/O rows (O22 to O25). -/

namespace Sys2Proof.Machine

/-! ### The X and Z fields -/

/-- A word runs an X function other than FX NOP exactly when its X field names it: a literal word runs FX NOP
(41 R201). -/
theorem xFn_eq_iff_x? {xz : XZField} {x : FXFn} (hx : x ≠ .nop) : xz.xFn = x ↔ xz.x? = some x := by
  cases xz with
  | fn x' z => exact (Option.some_inj (a := x')).symm
  | lit b => exact iff_of_false hx.symm nofun

/-- A word runs a Z function other than FZ NOP exactly when its Z field names it. -/
theorem zFn_eq_iff_z? {xz : XZField} {z : ZField} (hz : z ≠ .nop) : xz.zFn = z ↔ xz.z? = some z := by
  cases xz with
  | fn x z' => exact (Option.some_inj (a := z')).symm
  | lit b => exact iff_of_false hz.symm nofun

/-! ### The U address and the bus -/

/-- The U address of a word, by the stack function that its Z field names (42 R250). -/
theorem uAddr_eq (m : Microword) (s : State) : uAddr m s =
    if m.xz.z? = some .push then (s.stackP + 1).setWidth 8
    else if m.xz.z? = some .pop ∨ m.xz.z? = some .pop2 then s.stackP.setWidth 8
    else m.rA ++ m.rB := by
  simp only [← zFn_eq_iff_z? (xz := m.xz) (z := .push) nofun, ← zFn_eq_iff_z? (xz := m.xz) (z := .pop) nofun,
    ← zFn_eq_iff_z? (xz := m.xz) (z := .pop2) nofun]
  unfold uAddr
  cases m.xz.zFn <;> rfl

/-- The stack is the first sixteen registers of U (10 R25). -/
theorem uAddr_lt_of_stackFn {m : Microword} (s : State)
    (h : m.xz.z? = some .push ∨ m.xz.z? = some .pop ∨ m.xz.z? = some .pop2) : (uAddr m s).toNat < 16 := by
  have hlt : ∀ sp : BitVec 4, (sp.setWidth 8).toNat < 16 := by decide
  rw [uAddr_eq]
  split
  next => exact hlt _
  next hpush =>
    rw [if_pos (h.resolve_left hpush)]
    exact hlt _

theorem uNext_of_enSU {m : Microword} (t : Task) (s : State) (h : m.enSU = true) :
    uNext m t s = s.u.write (uAddr m s) (outY m t s) :=
  if_pos h

/-- BusU has the register at the word's U address on the bus, as it was at the start of the step (41 R205). -/
theorem busD_of_busU {m : Microword} (t : Task) (s : State) (h : m.xz.xFn = .busU) :
    busD m t s = s.u.read (uAddr m s) := by
  unfold busD
  cases hxz : m.xz with
  | lit b => exact absurd (hxz ▸ h : XZField.xFn (.lit b) = .busU) nofun
  | fn x z =>
    obtain rfl : x = .busU := (hxz ▸ h : XZField.xFn (.fn x z) = .busU)
    rfl

theorem commit_ranOn_busU {m : Microword} (t : Task) (s : State) (ib : List Byte) (h : m.xz.xFn = .busU) :
    ranOn m s (commit m t s ib) (s.u.read (uAddr m s)) :=
  busD_of_busU t s h ▸ commit_ranOn m t s ib

/-- Settles O22: the row writes Y at the word's U address, and the bus is read at the start of the step. -/
theorem suEnableWritesAtTheUAddress : Obligations.SUEnableWritesAtTheUAddress := by
  intro o t s hc hcomp a
  have ha : a = uAddr o.asEnSU s := (uAddr_eq o.asEnSU s).symm
  have hu := uNext_of_enSU (m := o.asEnSU) t s rfl
  rw [ha]
  refine givesNext_of_completes rfl hc hcomp fun ib => ⟨hu, ?_, fun hx => ?_, uAddr_lt_of_stackFn (m := o.asEnSU) s⟩
  · rw [accU, commit_u, hu]
    exact peek_write_same _ _ _
  · exact commit_ranOn_busU (m := o.asEnSU) t s ib ((xFn_eq_iff_x? (by nofun)).mpr hx)

/-! ### The stack -/

theorem trapsRaised_stack (m : Microword) (t : Task) (s : State) :
    (trapsRaised m t s).getLsbD 2 = stackTrap m.xz.zFn s.stackP := by
  obtain ⟨-, -, h, -⟩ := trapSet_bits (parityFails s.params.parityMode m.encode) (memErrTrap m t s)
    (stackTrap m.xz.zFn s.stackP) (ibEmptyTrap m s)
  exact h

/-- StackOverUnderflow joins the pending codes exactly where the boundary test fails, with a request (42 R256). -/
theorem trapNext_stack (m : Microword) (t : Task) (s : State) :
    (trapNext m t s).errPending.getLsbD 2 =
        ((trapStart m s).errPending.getLsbD 2 || stackTrap m.xz.zFn s.stackP) ∧
      (stackTrap m.xz.zFn s.stackP = true → (trapNext m t s).intReq = true) := by
  constructor
  · rw [trapNext_eq, raiseTraps_errPending, BitVec.getLsbD_or, trapsRaised_stack]
  · intro h
    obtain ⟨-, hreq⟩ := trapNext_of_raised ((trapsRaised_stack m t s).trans h)
    exact hreq

/-- Settles O23: the pointer, the U address and the boundary test of each stack function. -/
theorem stackRowsMoveThePointer : Obligations.StackRowsMoveThePointer := by
  intro o t s hc sp raises usesU
  have uses : ∀ z ib, usesU z (uAddr (o.asZ z) s) (commit (o.asZ z) t s ib) := fun z ib =>
    ⟨uNext_of_enSU (m := o.asZ z) t s,
      fun hx => commit_ranOn_busU (m := o.asZ z) t s ib ((xFn_eq_iff_x? (xz := o.xz) (by nofun)).mpr hx)⟩
  have traps : ∀ z ib, raises z (stackTrap z sp) (commit (o.asZ z) t s ib) := fun z _ =>
    trapNext_stack (o.asZ z) t s
  have link : linkNext (o.asZ .nop) t s = s.link := linkNext_of_noLinkOp t s rfl
  exact ⟨fun h => givesNext_of_completes rfl hc h fun ib => ⟨rfl, uses .nop ib, traps .nop ib, link⟩,
    fun h => givesNext_of_completes rfl hc h fun ib => ⟨rfl, uses .push ib, traps .push ib⟩,
    fun h => givesNext_of_completes rfl hc h fun ib => ⟨rfl, uses .pop ib, traps .pop ib⟩,
    fun h => givesNext_of_completes rfl hc h fun ib => ⟨rfl, uses .pop2 ib, traps .pop2 ib⟩⟩

/-! ### The I/O functions on the channel -/

section
variable (f : IOFn) (y : Word) (c : Channel)

/-- IOPOData latches the low byte of Y (42 R260). -/
theorem ioApply_cpToIop : (ioApply f y c).cpToIop = if f = .iopOData then lowByte y else c.cpToIop := by
  cases f <;> rfl

theorem ioApply_cpAck : (ioApply f y c).cpAck = (decide (f = .iopOData) || c.cpAck) := by
  cases f <;> rfl

/-- The wake modes with the mode that IOPCtl takes from Y (42 R261). -/
def wakeModeSet (y : Word) (w : PerTask WakeMode) : PerTask WakeMode :=
  w.set (taskOfCode (y.extractLsb' 4 3)) (wakeModeOfCode (y.extractLsb' 0 2))

theorem ioApply_wakeMode :
    (ioApply f y c).wakeMode = if f = .iopCtl then wakeModeSet y c.wakeMode else c.wakeMode := by
  cases f <;> rfl

theorem ioApply_dmaComplete : (ioApply f y c).dmaComplete = (decide (f = .dmaDone) || c.dmaComplete) := by
  cases f <;> rfl

end

theorem set_set_same {α : Type} (p : PerTask α) (t : Task) (x : α) : (p.set t x).set t x = p.set t x := by
  cases t <;> rfl

theorem wakeModeSet_idem (y : Word) (w : PerTask WakeMode) : wakeModeSet y (wakeModeSet y w) = wakeModeSet y w :=
  set_set_same _ _ _

/-! ### The channel after a word -/

section
variable (m : Microword) (t : Task) (s : State)

/-- The channel after the Y and the Z field's functions, on a channel `c` of which BusIOP took `iopReq` at most. -/
theorem ioNext_eq : ∃ c, (c = s.io ∨ c = iopTake s.io) ∧
    ioNext m t s = ioApply (ioZFn m) (outY m t s) (ioApply (ioYFn m) (outY m t s) c) := by
  refine ⟨_, ?_, rfl⟩
  split
  next => exact .inr rfl
  next => exact .inl rfl

variable {m t s}

/-- An IOPOData in either field (42 R260). -/
theorem ioNext_of_iopOData (h : ioYFn m = .iopOData ∨ ioZFn m = .iopOData) :
    (ioNext m t s).cpToIop = lowByte (outY m t s) ∧ (ioNext m t s).cpAck = true := by
  obtain ⟨c, -, he⟩ := ioNext_eq m t s
  rw [he, ioApply_cpToIop, ioApply_cpToIop, ioApply_cpAck, ioApply_cpAck]
  obtain h | h := h <;> simp [h]

/-- An IOPCtl in either field, or in both: they name the same task and mode (42 R261). -/
theorem ioNext_of_iopCtl (h : ioYFn m = .iopCtl ∨ ioZFn m = .iopCtl) :
    (ioNext m t s).wakeMode = wakeModeSet (outY m t s) s.io.wakeMode := by
  obtain ⟨c, hc, he⟩ := ioNext_eq m t s
  have hw : c.wakeMode = s.io.wakeMode := by obtain rfl | rfl := hc <;> rfl
  rw [he, ioApply_wakeMode, ioApply_wakeMode, hw]
  obtain h | h := h
  · rw [if_pos h, wakeModeSet_idem, ite_self]
  · rw [if_pos h]
    split
    next => exact wakeModeSet_idem _ _
    next => rfl

/-- A DMADone in either field (42 R262). -/
theorem ioNext_of_dmaDone (h : ioYFn m = .dmaDone ∨ ioZFn m = .dmaDone) : (ioNext m t s).dmaComplete = true := by
  obtain ⟨c, -, he⟩ := ioNext_eq m t s
  rw [he, ioApply_dmaComplete, ioApply_dmaComplete]
  obtain h | h := h <;> simp [h]

/-- Without BusIOP and with no I/O function but NOP the channel stays (42 R259). -/
theorem ioNext_of_nop (hx : m.xz.xFn ≠ .busIOP) (hy : ioYFn m = .nop) (hz : ioZFn m = .nop) :
    ioNext m t s = s.io := by
  rw [ioNext, hy, hz, ioApply_nop, ioApply_nop]
  split
  next h => exact absurd h hx
  next => rfl

end

theorem ioYFn_of_noIO {m : Microword} (h : ∀ f, m.y ≠ .io f) : ioYFn m = .nop := by
  unfold ioYFn
  split
  next f hf => exact absurd hf (h f)
  next => rfl

theorem ioZFn_of_noIO {m : Microword} (h : ∀ f, m.xz.z? ≠ some (.io f)) : ioZFn m = .nop := by
  unfold ioZFn
  split
  next f hf => exact absurd ((zFn_eq_iff_z? (by nofun)).mp hf) (h f)
  next => rfl

/-! ### The IOP's ports -/

/-- The IOP takes the byte of the latch and clears the acknowledge flag (60 R416). -/
theorem portRead_latch (s : State) : portRead 0xEB s =
    .next { s with reply := some s.io.cpToIop, io := { s.io with cpAck := false } } := rfl

theorem portRead_status (s : State) : portRead 0xEC s = .next { s with reply := some (statusByte s.io) } := rfl

/-- Bit 2 of the status byte is the DMA-complete flag (60 R418). -/
theorem statusByte_dmaComplete (c : Channel) : (statusByte c).getLsbD 2 = c.dmaComplete := by
  rw [statusByte]
  cases c.dmaMode <;> cases c.dmaComplete <;> cases c.iopReq <;> cases c.cpAck <;> rfl

theorem portWrite_clearDMA (v : Byte) (s : State) :
    portWrite 0xEE v s = .next { s with io := { s.io with dmaComplete := false } } := rfl

/-! ### The next address of a word without a branch and a link -/

theorem linkOp_of_noLink {m : Microword} (h : ∀ low, m.xz.z? ≠ some (.link low)) : m.linkOp = false := by
  unfold Microword.linkOp
  split
  next low hl => exact absurd ((zFn_eq_iff_z? (by nofun)).mp hl) (h low)
  next => rfl

/-- The task goes on at the address in its word (43 R280). -/
theorem commit_tpc_of_noBD_noLink {m : Microword} (t : Task) (s : State) (ib : List Byte) (hbd : m.isBD = false)
    (hl : ∀ low, m.xz.z? ≠ some (.link low)) : (commit m t s ib).tpc.get t = m.inia := by
  rw [commit_tpc, PerTask.get_set_same, nextAddr_of_noBD_noLinkOp t s hbd (linkOp_of_noLink hl)]

/-- Settles O24: the Z field's function does not undo the Y field's, and the word is no branch. -/
theorem ioRowsOfTheYField : Obligations.IORowsOfTheYField := by
  intro o t s hc taken seenAndCleared goesOnAtINIA
  have goesOn : ∀ f ib, goesOnAtINIA (commit (o.asIOY f) t s ib) := fun f ib =>
    commit_tpc_of_noBD_noLink (m := o.asIOY f) t s ib rfl
  refine ⟨fun h => givesNext_of_completes rfl hc h fun ib => ⟨fun hz hx => ?_, goesOn .nop ib⟩,
    fun h => givesNext_of_completes rfl hc h fun ib => ?_,
    fun h => givesNext_of_completes rfl hc h fun ib => ⟨ioNext_of_iopCtl (.inl rfl), goesOn .iopCtl ib⟩,
    fun h => givesNext_of_completes rfl hc h fun ib => ?_⟩
  · exact ioNext_of_nop (m := o.asIOY .nop) (mt (xFn_eq_iff_x? (by nofun)).mp hx) rfl (ioZFn_of_noIO hz)
  · obtain ⟨hbyte, hack⟩ := ioNext_of_iopOData (m := o.asIOY .iopOData) (t := t) (s := s) (.inl rfl)
    exact ⟨hbyte, hack, portRead_latch _, goesOn .iopOData ib⟩
  · have hdone := ioNext_of_dmaDone (m := o.asIOY .dmaDone) (t := t) (s := s) (.inl rfl)
    exact ⟨hdone, ⟨⟨_, (statusByte_dmaComplete _).trans hdone, portRead_status _⟩, fun v => portWrite_clearDMA v _⟩,
      goesOn .dmaDone ib⟩

/-- Settles O25: the Z field's function comes last, and an I/O function is neither a link nor a stack function. -/
theorem ioRowsOfTheZField : Obligations.IORowsOfTheZField := by
  intro o t s hc
  have hlink : linkNext (o.asZ (.io .nop)) t s = s.link := linkNext_of_noLinkOp t s rfl
  refine ⟨fun h => givesNext_of_completes rfl hc h fun ib => ⟨fun hy hx => ?_, hlink, rfl⟩,
    fun h => givesNext_of_completes rfl hc h fun ib => ioNext_of_iopOData (.inr rfl),
    fun h => givesNext_of_completes rfl hc h fun ib => ioNext_of_iopCtl (.inr rfl),
    fun h => givesNext_of_completes rfl hc h fun ib => ioNext_of_dmaDone (.inr rfl)⟩
  have hx' : o.xz.xFn ≠ .busIOP := mt (xFn_eq_iff_x? (by nofun)).mp hx
  exact ioNext_of_nop (m := o.asZ (.io .nop)) hx' (ioYFn_of_noIO hy) rfl

end Sys2Proof.Machine
end

section
/-! Proofs about Block, which clears a stored wakeup, and Map, which marks the address latch (O26, O27). -/

namespace Sys2Proof.Machine

/-! ### Block -/

/-- Settles O26: of the eight tasks, those whose wakeup is stored lose it. -/
theorem blockClearsAStoredWakeup : Obligations.BlockClearsAStoredWakeup := by
  intro o t s hc hcomp
  have hwake : wakeNext (o.asFY .block) t s = if isDeviceTask t then s.wake else s.wake.set t false := rfl
  have hstored : ∀ k ∈ [Task.emulator, .iop, .iopcs, .kernel], isDeviceTask k = false := by decide
  have hdevice : ∀ k ∈ [Task.display, .ethernet, .refresh, .disk], isDeviceTask k = true := by decide
  refine givesNext_of_completes rfl hc hcomp fun ib =>
    ⟨fun ht => ?_, fun ht => ?_, commit_tpc_of_noBD_noLink (m := o.asFY .block) t s ib rfl⟩
  · rw [commit_wake, hwake, hstored t ht]
    exact ⟨rfl, by simp [awake]⟩
  · rw [commit_wake, hwake, if_pos (hdevice t ht)]

/-! ### Map -/

/-- A word with one bit more has one more one, if the bit is counted. -/
theorem onesBelow_of_bit {w w' : ControlWord} {k : Nat} (hk : w.getLsbD k = false) (hk' : w'.getLsbD k = true)
    (h : ∀ j, j ≠ k → w'.getLsbD j = w.getLsbD j) (n : Nat) :
    onesBelow w' n = onesBelow w n + if k < n then 1 else 0 := by
  induction n with
  | zero => rfl
  | succ n ih =>
    rw [onesBelow, onesBelow, ih]
    by_cases hn : n = k
    · subst hn
      simp [hk, hk', Nat.add_comm]
    · rw [h n hn]
      grind

/-- The Y function of a word is its bits 23 to 20, and nothing else of it (30 R111). -/
theorem getLsbD_encode_asFY (f : FYFn) (o : Microword) (i : Nat) : (o.asFY f).encode.getLsbD i =
    if 20 ≤ i ∧ i < 24 then f.code.getLsbD (i - 20) else (o.asFY .nop).encode.getLsbD i := by
  simp only [Microword.encode, Microword.asFY, YField.sel, YField.code, BitVec.getLsbD_append]
  grind

/-- A Y function whose code has one bit more gives the word one more one. -/
theorem onesBelow_encode_asFY {f g : FYFn} {k : Nat} (hk : k < 4) (hf : f.code.getLsbD k = false)
    (hg : g.code = f.code ||| BitVec.twoPow 4 k) (o : Microword) :
    onesBelow (o.asFY g).encode 48 = onesBelow (o.asFY f).encode 48 + 1 := by
  have hbit : ∀ i, (o.asFY g).encode.getLsbD i = if i = 20 + k then true else (o.asFY f).encode.getLsbD i := by
    intro i
    rw [getLsbD_encode_asFY g, getLsbD_encode_asFY f, hg, BitVec.getLsbD_or, BitVec.getLsbD_twoPow]
    have hpos : 20 ≤ i → (k = i - 20 ↔ i = 20 + k) := by omega
    by_cases hi : i = 20 + k <;> grind
  have hlow : (o.asFY f).encode.getLsbD (20 + k) = false := by
    rw [getLsbD_encode_asFY, if_pos (by omega), Nat.add_sub_cancel_left, hf]
  rw [onesBelow_of_bit hlow ((hbit _).trans (if_pos rfl)) (fun j hj => (hbit j).trans (if_neg hj)) 48,
    if_pos (by omega)]

/-- The code of Map has two bits more than that of NOP, so the words' parity is the same (42 R246). -/
theorem parityFails_asFY_map (mode : ParityMode) (o : Microword) :
    parityFails mode (o.asFY .map).encode = parityFails mode (o.asFY .nop).encode := by
  have hones : onesBelow (o.asFY .map).encode 48 = onesBelow (o.asFY .nop).encode 48 + 2 :=
    calc onesBelow (o.asFY .map).encode 48
      _ = onesBelow (o.asFY .qOp).encode 48 + 1 := onesBelow_encode_asFY (k := 2) (by decide) rfl rfl o
      _ = onesBelow (o.asFY .nop).encode 48 + 2 :=
        congrArg (· + 1) (onesBelow_encode_asFY (k := 0) (by decide) rfl rfl o)
  cases mode <;> simp only [parityFails, hones, Nat.add_mod_right]

/-- Of the next state, Map reaches the memory event only. -/
theorem commit_asFY_map (o : Microword) (t : Task) (s : State) (ib : List Byte) :
    commit (o.asFY .map) t s ib = { commit (o.asFY .nop) t s ib with event := memEvent (o.asFY .map) t s } := by
  have htraps : trapsRaised (o.asFY .map) t s = trapsRaised (o.asFY .nop) t s :=
    congrArg (trapSet · _ _ _) (parityFails_asFY_map s.params.parityMode o)
  have htrap : trapNext (o.asFY .map) t s = trapNext (o.asFY .nop) t s := congrArg (raiseTraps · _) htraps
  exact congrArg (fun r => { commit (o.asFY .map) t s ib with trap := r }) htrap

/-- Outside an address latch the word emits what it emits without the mark. -/
theorem memEvent_asFY_map {o : Microword} {s : State} (t : Task) (h : o.mem = false ∨ s.phase ≠ .c1) :
    memEvent (o.asFY .map) t s = memEvent (o.asFY .nop) t s := by
  have hmem : ∀ f, (o.asFY f).mem = o.mem := fun _ => rfl
  rw [memEvent, memEvent, hmem, hmem]
  obtain hm | hph := h
  · rw [hm]
    rfl
  · cases hp : s.phase with
    | c1 => contradiction
    | c2 => rfl
    | c3 => rfl

/-- Settles O27: the two words leave the same IB and commit the same click but for the event. -/
theorem mapOnlyMarksTheLatch : Obligations.MapOnlyMarksTheLatch := by
  intro o t s hc hcomp
  obtain ⟨ib, hib, hrun⟩ := runWord_of_completes hc hcomp
  have hrun0 : runWord (o.asFY .nop) s = .next (commit (o.asFY .nop) t s ib) :=
    runWord_commit hc (asFY_doubleIBRead .nop o) hib
  exact ⟨_, _, (exec_word rfl s).trans hrun, (exec_word rfl s).trans hrun0, commit_asFY_map o t s ib,
    fun hm hph => ⟨memEvent_latch (m := o.asFY .map) t hm hph, memEvent_latch (m := o.asFY .nop) t hm hph⟩,
    memEvent_asFY_map t⟩

end Sys2Proof.Machine
end

section
/-! The term that a branch or dispatch ORs into INIA and the next address that it gives, the IB and the traps that a
buffer dispatch leaves, and a Link code in a branch or dispatch word (43 R280 to R299). -/

namespace Sys2Proof.Machine

/-! ### Bits of an address -/

/-- A condition ORed into bit 0 (43 R281). -/
theorem or_condBit (a : CSAddr) (c : Bool) : a ||| condBit c = if c then a ||| 1 else a := by
  cases c with
  | true => rfl
  | false => exact BitVec.or_zero

/-- Above a clear bit 0 the OR is the following address (43 R281). -/
theorem or_one_of_even {a : CSAddr} (h : a.getLsbD 0 = false) : a ||| 1 = a + 1 := by
  have hand : a &&& 1#12 = 0#12 := by
    rw [BitVec.and_one_eq_setWidth_ofBool_getLsbD, h]
    rfl
  exact (BitVec.add_eq_or_of_and_eq_zero a 1#12 hand).symm

theorem or_one_of_odd {a : CSAddr} (h : a.getLsbD 0 = true) : a ||| 1 = a := by
  have hand : a &&& 1#12 = 1#12 := by
    rw [BitVec.and_one_eq_setWidth_ofBool_getLsbD, h]
    rfl
  calc a ||| 1#12
    _ = a ||| (a &&& 1#12) := by rw [hand]
    _ = a := by grind

/-- ORing into an address clears none of its bits. -/
theorem or_and_self_left (a x : CSAddr) : (a ||| x) &&& a = a := by
  ext i hi
  simp only [BitVec.getElem_and, BitVec.getElem_or]
  grind

/-- A value of at most a byte reaches no bit of an address above bit 7. -/
theorem extract_high_setWidth {w : Nat} (hw : w ≤ 8) (x : BitVec w) :
    (x.setWidth 12 : CSAddr).extractLsb' 8 4 = 0 := by
  ext i hi
  have hbit : x.getLsbD (8 + i) = false := BitVec.getLsbD_of_ge _ _ (by omega)
  simp [hbit]

/-! ### The byte and the term of a dispatch -/

theorem dispatchByte_nil (m : Microword) (t : Task) {s : State} (hs : s.ib = []) : dispatchByte m t s = none := by
  rw [dispatchByte, hs]

theorem dispatchByte_of_cancelled {m : Microword} {t : Task} {s : State} (h : cancelled m t s = true) :
    dispatchByte m t s = none := by
  rw [dispatchByte, h]
  cases s.ib <;> rfl

theorem dispatchByte_cons {m : Microword} {t : Task} {s : State} {b : Byte} {rest : List Byte} (hs : s.ib = b :: rest)
    (h : cancelled m t s = false) : dispatchByte m t s = some b := by
  rw [dispatchByte, hs, h]
  rfl

/-- The term of a buffer dispatch is the byte that it takes, if it takes one (43 R292, R293). -/
theorem bdTerm_of_dispatch {f : BDFn} (hf : f = .ibDisp ∨ f = .alwaysIBDisp) (m : Microword) (t : Task) (s : State) :
    bdTerm f m t s = ((dispatchByte m t s).map (BitVec.setWidth 12)).getD 0 := by
  obtain rfl | rfl := hf <;> unfold bdTerm <;> cases dispatchByte m t s <;> rfl

/-- With at most three bytes in the IB the term reaches no bit of INIA above bit 7 (43 R299). -/
theorem extract_high_bdTerm (f : BDFn) (m : Microword) (t : Task) {s : State} (h : s.ib.length ≤ 3) :
    (bdTerm f m t s).extractLsb' 8 4 = 0 := by
  have hcond : ∀ c, (condBit c).extractLsb' 8 4 = 0 := fun c => extract_high_setWidth (by decide) _
  have hdispatch : ∀ g, g = .ibDisp ∨ g = .alwaysIBDisp → (bdTerm g m t s).extractLsb' 8 4 = 0 := by
    intro g hg
    rw [bdTerm_of_dispatch hg]
    cases dispatchByte m t s with
    | some b => exact extract_high_setWidth (by decide) b
    | none => rfl
  cases f with
  | yDisp | yIODisp => exact extract_high_setWidth (by decide) _
  | ibDisp => exact hdispatch _ (.inl rfl)
  | alwaysIBDisp => exact hdispatch _ (.inr rfl)
  | ibPtrDisp =>
    have hlen : ∀ n ≤ 3, (BitVec.ofNat 12 n).extractLsb' 8 4 = 0 := by decide
    exact hlen _ h
  | _ => exact hcond _

/-! ### The next address and the link registers -/

theorem nextAddr_of_bd {m : Microword} {f : BDFn} (t : Task) (s : State) (h : m.y = .bd f) :
    nextAddr m t s = m.inia ||| bdTerm f m t s := by
  rw [nextAddr, h]

theorem nextAddr_of_noBD {m : Microword} (t : Task) (s : State) (h : m.isBD = false) : nextAddr m t s =
    if m.linkOp && linkHigh m then m.inia ||| (s.link.get t).setWidth 12 else m.inia := by
  unfold nextAddr
  split
  next f hy => exact absurd hy (ne_bd_of_isBD h f)
  next => rfl

/-- The next address is INIA with a term ORed in, which with at most three bytes in the IB stays below bit 8
(43 R280, R299). -/
theorem nextAddr_eq_or (m : Microword) (t : Task) (s : State) :
    ∃ x, nextAddr m t s = m.inia ||| x ∧ (s.ib.length ≤ 3 → x.extractLsb' 8 4 = 0) := by
  unfold nextAddr
  split
  next f _ => exact ⟨_, rfl, extract_high_bdTerm f m t⟩
  next =>
    split
    next => exact ⟨_, rfl, fun _ => extract_high_setWidth (by decide) _⟩
    next => exact ⟨0, BitVec.or_zero.symm, fun _ => rfl⟩

/-- A branch or dispatch is no link operation (43 R298). -/
theorem linkOp_of_isBD {m : Microword} (h : m.isBD = true) : m.linkOp = false := by
  unfold Microword.linkOp
  rw [h]
  split <;> rfl

/-- Of the link registers only the current task's is written (43 R296). -/
theorem linkNext_get_other (m : Microword) (s : State) {t k : Task} (h : k ≠ t) :
    (linkNext m t s).get k = s.link.get k := by
  unfold linkNext
  split
  next => exact PerTask.get_set_other _ _ _ _ h
  next => rfl

theorem commit_tpc_get (m : Microword) (t : Task) (s : State) (ib : List Byte) :
    (commit m t s ib).tpc.get t = nextAddr m t s := by
  rw [commit_tpc, PerTask.get_set_same]

theorem commit_asBD_tpc_get (f : BDFn) (o : Microword) (t : Task) (s : State) (ib : List Byte) :
    (commit (o.asBD f) t s ib).tpc.get t = o.inia ||| bdTerm f (o.asBD f) t s :=
  (commit_tpc_get (o.asBD f) t s ib).trans (nextAddr_of_bd t s rfl)

theorem commit_asBD_link (f : BDFn) (o : Microword) (t : Task) (s : State) (ib : List Byte) :
    (commit (o.asBD f) t s ib).link = s.link :=
  linkNext_of_noLinkOp t s (linkOp_of_isBD rfl)

/-! ### The instruction buffer -/

/-- The IB after a completed word: what the consumption left, then the append of IBLoad (45 R358 item 6). -/
theorem eq_afterLoad_of_ibNext {m : Microword} {t : Task} {s : State} {ib : List Byte}
    (h : ibNext m t s = some ib) : ib = afterLoad m (commit m t s ib) (ibRest m t s) := by
  by_cases hl : m.xz.xFn = .ibLoad
  · rw [ibNext_of_ibLoad t s (decide_eq_true hl), ibAppend_eq] at h
    by_cases hroom : (ibRest m t s).length < 3
    · rw [if_pos hroom, Option.some_inj] at h
      rw [afterLoad, if_pos ⟨hl, hroom⟩]
      exact h.symm
    · rw [if_neg hroom, Option.ite_none_right_eq_some, Option.some_inj] at h
      obtain ⟨-, hib⟩ := h
      rw [afterLoad, if_neg fun ⟨_, hlt⟩ => hroom hlt, hib]
  · rw [ibNext_noLoad t s (decide_eq_false hl), Option.some_inj] at h
    rw [afterLoad, if_neg fun ⟨hload, _⟩ => hl hload, ibRest, h]

/-- A row whose word completes gives a next state with what every commit of that word has, whose IB is what the
consumption left and the append of IBLoad. -/
theorem givesNext_of_completes_afterLoad {i : Instr} {m : Microword} {t : Task} {s : State} {post : State → Prop}
    (hb : i.body = .word m) (hc : s.cur = some t) (h : completes m t s = true)
    (hpost : ∀ ib, ib = afterLoad m (commit m t s ib) (ibRest m t s) → post (commit m t s ib)) :
    givesNext i s post := by
  obtain ⟨ib, hib, hr⟩ := runWord_of_completes hc h
  exact ⟨commit m t s ib, (exec_word hb s).trans hr, hpost ib (eq_afterLoad_of_ibNext hib)⟩

theorem doubleIBRead_of_completes {m : Microword} {t : Task} {s : State} (h : completes m t s = true) :
    m.doubleIBRead = false := by
  rw [completes_eq, Bool.and_eq_true, Bool.not_eq_true'] at h
  obtain ⟨hd, -⟩ := h
  exact hd

theorem readsIBFront_of_noBusIB {m : Microword} (hx : m.xz.x? ≠ some .busIB) (hxna : m.xz.x? ≠ some .busIBNA) :
    m.readsIBFront = false := by
  rw [Microword.readsIBFront, decide_eq_false (mt (xFn_eq_iff_x? (by nofun)).mp hx),
    decide_eq_false (mt (xFn_eq_iff_x? (by nofun)).mp hxna), Bool.or_false]

/-- IBEmpty joins the pending codes exactly where the step raises it (60 R408). -/
theorem trapNext_ibEmpty (m : Microword) (t : Task) (s : State) :
    (trapNext m t s).errPending.getLsbD 3 = ((trapStart m s).errPending.getLsbD 3 || ibEmptyTrap m s) := by
  rw [trapNext_eq, raiseTraps_errPending, BitVec.getLsbD_or, trapsRaised_ibEmpty]

theorem commit_of_noIBEmptyTrap {m : Microword} {s : State} (t : Task) (ib : List Byte)
    (h : ibEmptyTrap m s = false) :
    (commit m t s ib).trap.errPending.getLsbD 3 = (trapStart m s).errPending.getLsbD 3 := by
  rw [commit_trap, trapNext_ibEmpty, h, Bool.or_false]

/-- Only a BusIB, a BusIBNA and an IBDisp raise IBEmpty (60 R408). -/
theorem ibEmptyTrap_of_noRead {m : Microword} (s : State) (hr : m.readsIBFront = false) (hd : m.ibDispatch = false) :
    ibEmptyTrap m s = false := by
  rw [ibEmptyTrap, hr, hd]
  rfl

/-! ### The buffer dispatch -/

section
variable {o : Microword} {f : BDFn} {t : Task} {s : State}

/-- A buffer dispatch that completes does not also read the IB to the bus (30 R133). -/
theorem readsIBFront_of_dispatch (hf : f = .ibDisp ∨ f = .alwaysIBDisp) (h : completes (o.asBD f) t s = true) :
    (o.asBD f).readsIBFront = false := by
  have hd := doubleIBRead_of_completes h
  obtain rfl | rfl := hf <;> exact (Bool.and_true _).symm.trans hd

/-- A buffer dispatch removes the front byte unless a page cross cancels it (43 R292, R293). -/
theorem ibRest_of_dispatch (hf : f = .ibDisp ∨ f = .alwaysIBDisp) (hread : (o.asBD f).readsIBFront = false) :
    ibRest (o.asBD f) t s = if cancelled (o.asBD f) t s then s.ib else s.ib.tail := by
  obtain ⟨hx, -⟩ := Bool.or_eq_false_iff.mp hread
  have hy : (o.asBD f).y = .bd .ibDisp ∨ (o.asBD f).y = .bd .alwaysIBDisp :=
    hf.imp (congrArg YField.bd) (congrArg YField.bd)
  rw [ibRest_eq]
  cases cancelled (o.asBD f) t s with
  | true => exact if_neg fun h => h.elim (of_decide_eq_false hx) nofun
  | false => exact if_pos (.inr ⟨hy, rfl⟩)

end

/-- The step's own flags tell the page cross that cancels it (44 R324, R325). -/
theorem pageCancel_commit_asBD (f : BDFn) (o : Microword) (t : Task) (s : State) (ib : List Byte) :
    pageCancel o s (commit (o.asBD f) t s ib) = cancelled (o.asBD f) t s := rfl

/-! ### A Link code in a branch or dispatch word -/

section
variable (o : Microword) (t : Task) (s : State)

/-- A Link code and FZ NOP name the same U address, so the ALU runs alike (42 R250). -/
theorem operandR_asLink : operandR o.asLink t s = operandR (o.asZ .nop) t s := by
  have hbus : busD o.asLink t s = busD (o.asZ .nop) t s := by
    unfold busD Microword.asLink Microword.asZ
    cases o.xz.xFn <;> rfl
  rw [operandR, hbus]
  rfl

theorem outFlags_asLink : outFlags o.asLink t s = outFlags (o.asZ .nop) t s := by
  rw [outFlags, operandR_asLink]
  rfl

theorem outY_asLink : outY o.asLink t s = outY (o.asZ .nop) t s := by
  rw [outY, outF, operandR_asLink]
  rfl

theorem dispatchByte_asLink : dispatchByte o.asLink t s = dispatchByte (o.asZ .nop) t s := by
  rw [dispatchByte, cancelled, crossNow, outFlags_asLink]
  rfl

theorem ibNext_asLink : ibNext o.asLink t s = ibNext (o.asZ .nop) t s := by
  rw [ibNext, consumesIB, dispatchByte_asLink, outY_asLink]
  rfl

theorem bdTerm_asLink (f : BDFn) : bdTerm f o.asLink t s = bdTerm f (o.asZ .nop) t s := by
  unfold bdTerm
  rw [outFlags_asLink, outY_asLink, dispatchByte_asLink]

end

/-- A branch or dispatch word with a Link code goes where it goes with FZ NOP (43 R298). -/
theorem nextAddr_asLink_of_isBD {o : Microword} (t : Task) (s : State) (h : o.isBD = true) :
    nextAddr o.asLink t s = nextAddr (o.asZ .nop) t s := by
  cases hy : o.y with
  | bd f =>
    rw [nextAddr_of_bd (m := o.asLink) t s hy, nextAddr_of_bd (m := o.asZ .nop) t s hy, bdTerm_asLink]
    rfl
  | fy f | io f =>
    rw [Microword.isBD, hy] at h
    contradiction

end Sys2Proof.Machine
end

section
/-! Proofs about the branches and dispatches, the Link row, and the next address of every word (O28 to O32). -/

namespace Sys2Proof.Machine

/-! ### Branches and dispatches -/

/-- Settles O28, by the term of each branch. -/
theorem branchRowsOrTheConditionIntoINIA : Obligations.BranchRowsOrTheConditionIntoINIA := by
  refine ⟨?_, fun a => ⟨or_one_of_even, or_one_of_odd⟩⟩
  intro o t s hc goes f
  have branch : ∀ {g : BDFn} (c : Bool) (ib : List Byte), bdTerm g (o.asBD g) t s = condBit c →
      goes c (commit (o.asBD g) t s ib) := fun {g} c ib hterm =>
    ⟨by rw [commit_asBD_tpc_get, hterm, or_condBit], commit_asBD_link g o t s ib⟩
  exact ⟨fun h => givesNext_of_completes rfl hc h fun ib => ⟨branch _ ib rfl, rfl⟩,
    fun h => givesNext_of_completes rfl hc h fun ib => ⟨branch _ ib rfl, rfl⟩,
    fun h => givesNext_of_completes rfl hc h fun ib => ⟨branch _ ib rfl, rfl⟩,
    fun h => givesNext_of_completes rfl hc h fun ib => branch _ ib rfl,
    fun h => givesNext_of_completes rfl hc h fun ib => ⟨branch _ ib rfl, rfl⟩,
    fun h => givesNext_of_completes rfl hc h fun ib => ⟨branch _ ib rfl, rfl⟩,
    fun h => givesNext_of_completes rfl hc h fun ib => branch _ ib rfl,
    fun h => givesNext_of_completes rfl hc h fun ib => ⟨branch _ ib rfl, rfl⟩⟩

/-- Settles O29, by the term of each dispatch; IBPtrDisp neither removes a byte nor reads one. -/
theorem indexDispatchRowsOrTheirIndexIntoINIA : Obligations.IndexDispatchRowsOrTheirIndexIntoINIA := by
  intro o t s hc keepsIB
  refine ⟨fun h => givesNext_of_completes rfl hc h (commit_asBD_tpc_get .yDisp o t s),
    fun h => givesNext_of_completes rfl hc h fun ib =>
      (commit_asBD_tpc_get .yIODisp o t s ib).trans (congrArg (o.inia ||| ·) ?_),
    fun h _ => givesNext_of_completes_afterLoad rfl hc h fun ib hib => ?_⟩
  · have hflags : ∀ a b : Bool, (BitVec.ofBool a ++ BitVec.ofBool b).setWidth 12 =
        ((if a then 2 else 0) ||| (if b then 1 else 0) : CSAddr) := by decide
    exact hflags _ _
  · have hptr : ∀ n, s.ib.length = n →
        (commit (o.asBD .ibPtrDisp) t s ib).tpc.get t = o.inia ||| BitVec.ofNat 12 n := fun n hn =>
      hn ▸ commit_asBD_tpc_get .ibPtrDisp o t s ib
    refine ⟨fun hn => (hptr 0 hn).trans BitVec.or_zero, hptr 1, hptr 2, hptr 3, fun hx => ?_, fun hx hxna => ?_⟩
    · rwa [ibRest_of_noRead (m := o.asBD .ibPtrDisp) t s (mt (xFn_eq_iff_x? (by nofun)).mp hx) nofun nofun] at hib
    · have hread : (o.asBD .ibPtrDisp).readsIBFront = false := readsIBFront_of_noBusIB hx hxna
      exact commit_of_noIBEmptyTrap t ib (ibEmptyTrap_of_noRead s hread rfl)

/-- Settles O30: both rows have the outcomes of a buffer dispatch, and only IBDisp traps. -/
theorem bufferDispatchRowsConsumeTheFrontByte : Obligations.BufferDispatchRowsConsumeTheFrontByte := by
  intro o t s hc outcome emptyBit
  have dispatch : ∀ {f ib}, (f = .ibDisp ∨ f = .alwaysIBDisp) → (o.asBD f).readsIBFront = false →
      ib = afterLoad (o.asBD f) (commit (o.asBD f) t s ib) (ibRest (o.asBD f) t s) →
      outcome (commit (o.asBD f) t s ib) := by
    intro f ib hf hread hib
    have htpc := commit_asBD_tpc_get f o t s ib
    rw [bdTerm_of_dispatch hf] at htpc
    rw [ibRest_of_dispatch hf hread] at hib
    refine ⟨fun hs => ?_, fun b rest _ hcross => ?_, fun b rest hs hcross => ?_⟩
    · rw [dispatchByte_nil _ _ hs] at htpc
      rw [hs, List.tail_nil, ite_self] at hib
      exact ⟨htpc.trans BitVec.or_zero, hib⟩
    · rw [pageCancel_commit_asBD] at hcross
      rw [dispatchByte_of_cancelled hcross] at htpc
      rw [hcross] at hib
      exact ⟨htpc.trans BitVec.or_zero, hib⟩
    · rw [pageCancel_commit_asBD] at hcross
      rw [dispatchByte_cons hs hcross] at htpc
      rw [hcross, hs] at hib
      exact ⟨htpc, hib⟩
  refine ⟨fun h => givesNext_of_completes_afterLoad rfl hc h fun ib hib => ?_,
    fun h => givesNext_of_completes_afterLoad rfl hc h fun ib hib => ?_⟩
  · refine ⟨dispatch (.inl rfl) (readsIBFront_of_dispatch (.inl rfl) h) hib,
      fun hs => commit_of_ibEmptyTrap t ib ?_, fun hs => commit_of_noIBEmptyTrap (m := o.asBD .ibDisp) t ib ?_⟩
    · rw [ibEmptyTrap, hs]
      exact (Bool.and_true _).trans (Bool.or_true _)
    · rw [ibEmptyTrap, List.isEmpty_eq_false_iff.mpr hs, Bool.and_false]
  · have hread := readsIBFront_of_dispatch (.inr rfl) h
    exact ⟨dispatch (.inr rfl) hread hib, commit_of_noIBEmptyTrap t ib (ibEmptyTrap_of_noRead s hread rfl)⟩

/-! ### The Link row -/

/-- Settles O31: the word is a link operation exactly when it is no branch or dispatch, and bit 11 of INIA tells a
write from a merge. -/
theorem linkRowWritesOrMerges : Obligations.LinkRowWritesOrMerges := by
  intro o t s hc hcomp
  have hop : o.asLink.linkOp = !o.isBD := rfl
  have hhigh : linkHigh o.asLink = o.inia.getLsbD 11 := rfl
  obtain ⟨ib, hib, hrun⟩ := runWord_of_completes hc hcomp
  refine ⟨commit o.asLink t s ib, (exec_word rfl s).trans hrun, ?_, fun hen => ?_, fun hbd => ⟨?_, ?_⟩,
    fun hbd hlow => ?_, fun hbd hset => ?_⟩
  · rw [commit_stackP]
    exact stackNext_link _ _
  · rw [commit_u]
    exact uNext_of_enSU (m := o.asLink) t s hen
  · exact linkNext_of_noLinkOp t s (linkOp_of_isBD hbd)
  · have hd : o.asLink.doubleIBRead = false := doubleIBRead_of_completes hcomp
    have hrun0 : runWord (o.asZ .nop) s = .next (commit (o.asZ .nop) t s ib) :=
      runWord_commit hc hd ((ibNext_asLink o t s).symm.trans hib)
    refine ⟨commit (o.asZ .nop) t s ib, (exec_word rfl s).trans hrun0, ?_⟩
    rw [commit_tpc, commit_tpc, nextAddr_asLink_of_isBD t s hbd]
  · rw [commit_link, commit_tpc_get, linkNext, nextAddr_of_noBD (m := o.asLink) t s hbd, hop, hhigh, hbd, hlow]
    exact ⟨rfl, rfl⟩
  · rw [commit_link, commit_tpc_get, linkNext, nextAddr_of_noBD (m := o.asLink) t s hbd, hop, hhigh, hbd, hset]
    exact ⟨rfl, rfl⟩

/-! ### The next address of every word -/

/-- Settles O32: the next address is INIA with a term ORed in below bit 8. -/
theorem nextAddressIsINIAUnlessAFunctionChangesIt : Obligations.NextAddressIsINIAUnlessAFunctionChangesIt := by
  intro i m t s s' hb hc hexec
  rw [exec_word hb] at hexec
  obtain ⟨hidle, -⟩ | ⟨t', ib, ht, -, -, rfl⟩ := runWord_next hexec
  · exact absurd (hc.symm.trans hidle) nofun
  · obtain rfl : t = t' := Option.some_inj.mp (hc.symm.trans ht)
    obtain ⟨x, hx, hhigh⟩ := nextAddr_eq_or m t s
    refine ⟨fun k hk => ⟨?_, linkNext_get_other m s hk⟩, fun hbd hl => ⟨?_, ?_⟩, fun hlen => ?_, ?_⟩
    · rw [commit_tpc, PerTask.get_set_other _ _ _ _ hk]
    · exact commit_tpc_of_noBD_noLink t s ib hbd hl
    · exact linkNext_of_noLinkOp t s (linkOp_of_noLink hl)
    · rw [commit_tpc_get, hx, BitVec.extractLsb'_or, hhigh hlen]
      exact BitVec.or_zero
    · rw [commit_tpc_get, hx, or_and_self_left]

end Sys2Proof.Machine
end

section
/-! The memory event of each phase, what a page cross reaches, and proofs about the memory rows and the page cross
(O33 to O35). -/

namespace Sys2Proof.Machine

/-! ### A word that answered a next state -/

/-- With a current task, a word's next state is the commit of its click. -/
theorem exec_commit {i : Instr} {m : Microword} {t : Task} {s s' : State} (hb : i.body = .word m)
    (hc : s.cur = some t) (h : exec i s = .next s') : ∃ ib, ibNext m t s = some ib ∧ s' = commit m t s ib := by
  rw [exec_word hb] at h
  obtain ⟨hidle, -⟩ | ⟨k, ib, hk, -, hib, hs'⟩ := runWord_next h
  · exact absurd (hc.symm.trans hidle) nofun
  · obtain rfl : t = k := Option.some_inj.mp (hc.symm.trans hk)
    exact ⟨ib, hib, hs'⟩

/-! ### The memory event -/

/-- The step raises IBEmpty when it reads the front of an Empty buffer (60 R408). -/
theorem ibEmptyTrap_iff {m : Microword} {s : State} : ibEmptyTrap m s = true ↔
    s.ib = [] ∧ (m.xz.x? = some .busIB ∨ m.xz.x? = some .busIBNA ∨ m.y = .bd .ibDisp) := by
  rw [← xFn_eq_iff_x? (x := .busIB) nofun, ← xFn_eq_iff_x? (x := .busIBNA) nofun]
  simp only [ibEmptyTrap, Microword.readsIBFront, Microword.ibDispatch, Bool.and_eq_true, Bool.or_eq_true,
    decide_eq_true_eq, List.isEmpty_iff, or_assoc, and_comm]

/-- In the data phases only the last click's page cross and an Empty buffer suppress (44 R324, R326). -/
theorem suppressed_iff_of_ne_c1 {m : Microword} {t : Task} {s : State} (h : s.phase ≠ .c1) :
    suppressed m t s = true ↔ s.pageCross = true ∨ ibEmptyTrap m s = true := by
  have hcross : crossNow m t s = false := by rw [crossNow, decide_eq_false h, Bool.false_and, Bool.false_and]
  rw [suppressed, cancelled, hcross, Bool.or_false, Bool.or_eq_true]

theorem memEvent_of_noMem {m : Microword} (t : Task) (s : State) (h : m.mem = false) : memEvent m t s = none := by
  rw [memEvent, h]
  rfl

theorem memEvent_write {m : Microword} {t : Task} {s : State} (hm : m.mem = true) (hph : s.phase = .c2)
    (h : ¬suppressed m t s = true) : memEvent m t s = some (.write (outY m t s)) := by
  rw [memEvent, if_pos hm, hph]
  exact if_neg h

theorem memEvent_read {m : Microword} {t : Task} {s : State} (hm : m.mem = true) (hph : s.phase = .c3)
    (h : ¬suppressed m t s = true) : memEvent m t s = some .read := by
  rw [memEvent, if_pos hm, hph]
  exact if_neg h

/-! ### The rows and the page cross of every word -/

/-- Settles O33: the three rows commit the same click, whose event is that of the phase. -/
theorem memoryRowsEmitTheEventOfThePhase : Obligations.MemoryRowsEmitTheEventOfThePhase := by
  intro o t s hc hcomp emptyRead suppress emits
  have hsup : s.phase ≠ .c1 → (suppressed o.asMem t s = true ↔ suppress) := fun hph =>
    (suppressed_iff_of_ne_c1 hph).trans (or_congr_right (ibEmptyTrap_iff (m := o.asMem)))
  have commits : ∀ ib, emits (commit o.asMem t s ib) := by
    intro ib
    refine ⟨memEvent_latch (m := o.asMem) t rfl, fun hph => ?_, fun hph => ?_, ?_⟩
    · have hne : s.phase ≠ .c1 := hph ▸ nofun
      exact ⟨fun h => memEvent_of_suppressed ((hsup hne).mpr h) hne,
        fun h => memEvent_write rfl hph (mt (hsup hne).mp h)⟩
    · have hne : s.phase ≠ .c1 := hph ▸ nofun
      exact ⟨fun h => memEvent_of_suppressed ((hsup hne).mpr h) hne,
        fun h => memEvent_read rfl hph (mt (hsup hne).mp h)⟩
    · exact congrArg (· && (outFlags o.asMem t s).pgc) (Bool.and_true _)
  exact ⟨givesNext_of_completes rfl hc hcomp commits, givesNext_of_completes rfl hc hcomp commits,
    givesNext_of_completes rfl hc hcomp commits⟩

theorem crossNow_iff {m : Microword} {t : Task} {s : State} : crossNow m t s = true ↔
    s.phase = .c1 ∧ m.mem = true ∧ (outFlags m t s).pgc = true := by
  rw [crossNow, Bool.and_eq_true, Bool.and_eq_true, decide_eq_true_iff, and_assoc]

/-- Settles O34: the flag that a click commits is its own `crossNow`, not that of the click before. -/
theorem noMemoryPhaseNoEventNoPageCross : Obligations.NoMemoryPhaseNoEventNoPageCross := by
  intro i m t s s' hb hc hexec
  obtain ⟨ib, -, rfl⟩ := exec_commit hb hc hexec
  refine ⟨fun hm => ⟨memEvent_of_noMem t s hm, ?_⟩, crossNow_iff⟩
  rw [commit_pageCross, crossNow, hm, Bool.and_false, Bool.false_and]

/-! ### What the page-cross flag reaches -/

section
variable {m : Microword} {t : Task} {s : State}

/-- With the same IB left, the page-cross flag reaches of the next state only the next address, the traps and the
event (44 R325). -/
theorem commit_with_pageCross (m : Microword) (t : Task) (s : State) (c : Bool) (ib : List Byte) :
    commit m t { s with pageCross := c } ib =
      { commit m t s ib with
        tpc := s.tpc.set t (nextAddr m t { s with pageCross := c })
        trap := trapNext m t { s with pageCross := c }
        event := memEvent m t { s with pageCross := c } } := rfl

/-- Without a buffer dispatch a word consumes the front byte by BusIB only (41 R207). -/
theorem consumesIB_of_noDispatch (hd : m.y ≠ .bd .ibDisp) (hf : m.y ≠ .bd .alwaysIBDisp) :
    consumesIB m t s = (m.ptrDecrement && !s.ib.isEmpty) := by
  rw [consumesIB, Microword.ibDispatch, Microword.forceDisp, decide_eq_false hd, decide_eq_false hf, Bool.or_false,
    Bool.false_and, Bool.or_false]

theorem ibNext_with_pageCross (c : Bool) (hd : m.y ≠ .bd .ibDisp) (hf : m.y ≠ .bd .alwaysIBDisp) :
    ibNext m t { s with pageCross := c } = ibNext m t s := by
  rw [ibNext_eq, ibNext_eq, consumesIB_of_noDispatch hd hf, consumesIB_of_noDispatch hd hf]
  rfl

/-- Only the term of a buffer dispatch depends on the page-cross flag (43 R292, R293). -/
theorem bdTerm_with_pageCross {f : BDFn} (c : Bool) (hd : f ≠ .ibDisp) (hf : f ≠ .alwaysIBDisp) :
    bdTerm f m t { s with pageCross := c } = bdTerm f m t s := by
  cases f with
  | ibDisp | alwaysIBDisp => contradiction
  | _ => rfl

theorem nextAddr_with_pageCross (c : Bool) (hd : m.y ≠ .bd .ibDisp) (hf : m.y ≠ .bd .alwaysIBDisp) :
    nextAddr m t { s with pageCross := c } = nextAddr m t s := by
  cases hy : m.y with
  | bd f =>
    have hterm := bdTerm_with_pageCross (m := m) (t := t) (s := s) c (fun h => hd (h ▸ hy)) fun h => hf (h ▸ hy)
    rw [nextAddr_of_bd t _ hy, nextAddr_of_bd t _ hy, hterm]
  | fy f | io f =>
    have hbd : m.isBD = false := by rw [Microword.isBD, hy]
    rw [nextAddr_of_noBD t _ hbd, nextAddr_of_noBD t _ hbd]

/-- An address latch and a word without the memory-phase bit perform no data operation (44 R322, R323). -/
theorem dataOperation_of_noData (h : s.phase = .c1 ∨ m.mem = false) : dataOperation m t s = false := by
  unfold dataOperation
  obtain hph | hm := h
  · rw [hph, decide_eq_false (not_not_intro rfl), Bool.and_false, Bool.false_and]
  · rw [hm, Bool.false_and, Bool.false_and]

theorem memEvent_with_pageCross (c : Bool) (h : s.phase = .c1 ∨ m.mem = false) :
    memEvent m t { s with pageCross := c } = memEvent m t s := by
  cases hm : m.mem with
  | false => rw [memEvent_of_noMem t _ hm, memEvent_of_noMem t _ hm]
  | true =>
    have hph : s.phase = .c1 := h.resolve_right (ne_false_of_eq_true hm)
    exact (memEvent_latch (s := { s with pageCross := c }) t hm hph).trans (memEvent_latch t hm hph).symm

/-- Without a data operation no memory error depends on the page-cross flag (44 R327). -/
theorem trapNext_with_pageCross (c : Bool) (h : s.phase = .c1 ∨ m.mem = false) :
    trapNext m t { s with pageCross := c } = trapNext m t s := by
  have hmem : memErrTrap m t { s with pageCross := c } = memErrTrap m t s := by
    rw [memErrTrap, memErrTrap, dataOperation_of_noData h,
      dataOperation_of_noData (s := { s with pageCross := c }) h, Bool.and_false]
  rw [trapNext, trapNext, trapsRaised, hmem]
  rfl

end

/-- Settles O35: two clicks from states that differ in the flag commit what the click from the common state does, but
for the pieces that the flag reaches. -/
theorem pageCrossCancelsNothingElse : Obligations.PageCrossCancelsNothingElse := by
  intro i m t s p q c d hb hc hp hq
  obtain ⟨ibp, hibp, rfl⟩ := exec_commit (s := { s with pageCross := c }) hb hc hp
  obtain ⟨ibq, hibq, rfl⟩ := exec_commit (s := { s with pageCross := d }) hb hc hq
  rw [commit_with_pageCross, commit_with_pageCross]
  refine ⟨rfl, rfl, rfl, rfl, rfl, rfl, rfl, rfl, rfl, rfl, rfl, rfl, rfl, fun hd hf => ⟨?_, ?_⟩, fun h => ⟨?_, ?_⟩⟩
  · rw [ibNext_with_pageCross c hd hf] at hibp
    rw [ibNext_with_pageCross d hd hf] at hibq
    exact Option.some_inj.mp (hibp.symm.trans hibq)
  · exact congrArg (s.tpc.set t) ((nextAddr_with_pageCross c hd hf).trans (nextAddr_with_pageCross d hd hf).symm)
  · exact (memEvent_with_pageCross c h).trans (memEvent_with_pageCross d h).symm
  · exact (trapNext_with_pageCross c h).trans (trapNext_with_pageCross d h).symm

end Sys2Proof.Machine
end

section
/-! The start of a click: the sampling of the device wakes, the selection of a task and the idle click (O45 to O47), and
the device flags along every step (O58). -/

namespace Sys2Proof.Machine

/-! ### The tasks by their numbers -/

theorem taskOfCode_injective : Function.Injective taskOfCode := by
  unfold Function.Injective
  decide

theorem taskOfCode_surjective : Function.Surjective taskOfCode := by
  intro t
  cases t with
  | emulator => exact ⟨0, rfl⟩
  | display => exact ⟨1, rfl⟩
  | ethernet => exact ⟨2, rfl⟩
  | refresh => exact ⟨3, rfl⟩
  | disk => exact ⟨4, rfl⟩
  | iop => exact ⟨5, rfl⟩
  | iopcs => exact ⟨6, rfl⟩
  | kernel => exact ⟨7, rfl⟩

/-! ### The effective wake -/

/-- The sampled flags by task number: the inputs of tasks 1 to 4, the stored flags of the others (45 R354). -/
theorem sampleWakes_get_taskOfCode (inp : Inputs) (w : PerTask Bool) (c : BitVec 3) :
    (sampleWakes inp w).get (taskOfCode c) =
      if c = 1 then inp.wakeDisplay
      else if c = 2 then inp.wakeEthernet
      else if c = 3 then inp.wakeRefresh
      else if c = 4 then inp.wakeDisk
      else w.get (taskOfCode c) := by
  have hcodes : ∀ c : BitVec 3, c = 0 ∨ c = 1 ∨ c = 2 ∨ c = 3 ∨ c = 4 ∨ c = 5 ∨ c = 6 ∨ c = 7 := by decide
  obtain rfl | rfl | rfl | rfl | rfl | rfl | rfl | rfl := hcodes c <;> rfl

/-- The I/O wake term, mode by mode (45 R355). -/
theorem ioWake_iff {c : Channel} {t : Task} : ioWake c t = true ↔
    (c.wakeMode.get t = .input ∧ c.iopReq = true) ∨ (c.wakeMode.get t = .output ∧ c.cpAck = false) ∨
      c.wakeMode.get t = .always := by
  unfold ioWake
  cases c.wakeMode.get t <;> simp

theorem awake_iff {w : PerTask Bool} {c : Channel} {t : Task} :
    awake w c t = true ↔ w.get t = true ∨ ioWake c t = true :=
  Bool.or_eq_true_iff

/-! ### The selection -/

/-- A click, idle or not, runs the task that it selected. -/
theorem exec_cur {i : Instr} {s s' : State} (h : exec i s = .next s') : s'.cur = s.cur := by
  obtain ⟨m, -, ⟨hc, rfl⟩ | ⟨t, ib, -, -, -, rfl⟩⟩ := exec_next h
  · exact hc.symm
  · exact commit_cur m t s ib

theorem executeClick_cur {inp : Inputs} {s s' : State} (h : executeClick inp s = .next s') :
    s'.cur = selectTask s.params.taskPriority (sampleWakes inp s.wake) s.io := by
  rw [← beginClick_cur]
  cases hc : (beginClick inp s).cur with
  | none =>
    rw [executeClick_idle hc, Host.Outcome.next.injEq] at h
    exact h ▸ idleClick_cur _
  | some t =>
    cases hw : fetchWord t (beginClick inp s) with
    | none =>
      rw [executeClick_unloaded hc hw] at h
      contradiction
    | some w =>
      rw [executeClick_fetched hc hw] at h
      exact (exec_cur h).trans hc

/-- In a rising list of all values, the first that satisfies `p` is the least. -/
theorem find?_eq_some_iff_least {α : Type} [LT α] (hasymm : ∀ a b : α, a < b → ¬b < a) {l : List α}
    (hl : l.Pairwise (· < ·)) (hmem : ∀ a, a ∈ l) {p : α → Bool} {a : α} :
    l.find? p = some a ↔ p a = true ∧ ∀ b, b < a → ¬p b = true := by
  rw [List.find?_eq_some_iff_append]
  refine and_congr_right fun _ => ⟨?_, fun hleast => ?_⟩
  · rintro ⟨before, after, rfl, hbefore⟩ b hlt
    obtain ⟨-, hafter, -⟩ := List.pairwise_append.mp hl
    obtain hb | hb := List.mem_append.mp (hmem b)
    · simpa using hbefore b hb
    · obtain rfl | hb := List.mem_cons.mp hb
      · exact absurd hlt (hasymm b b hlt)
      · exact absurd (List.rel_of_pairwise_cons hafter hb) (hasymm b a hlt)
  · obtain ⟨before, after, rfl⟩ := List.append_of_mem (hmem a)
    obtain ⟨-, -, hlt⟩ := List.pairwise_append.mp hl
    exact ⟨before, after, rfl, fun b hb => by simpa using hleast b (hlt b hb a List.mem_cons_self)⟩

/-- The task numbers, as TASK_PRIORITY's default lists them (45 R352). -/
def taskCodes : List (BitVec 3) := [0, 1, 2, 3, 4, 5, 6, 7]

/-- Under the default order the selection is the awake task of the least number (45 R352). -/
theorem selectTask_taskCodes {w : PerTask Bool} {c : Channel} {k : BitVec 3} :
    selectTask (taskCodes.map taskOfCode) w c = some (taskOfCode k) ↔
      awake w c (taskOfCode k) = true ∧ ∀ j, j < k → ¬awake w c (taskOfCode j) = true := by
  rw [selectTask, List.find?_map, ← Option.map_some, (Option.map_injective taskOfCode_injective).eq_iff,
    find?_eq_some_iff_least (by decide) (by decide) (by decide)]
  rfl

/-- A total order leaves no task awake that it does not select (45 R352). -/
theorem selectTask_eq_none_of_wf {p : Params} (h : p.wf = true) {w : PerTask Bool} {c : Channel} :
    selectTask p.taskPriority w c = none ↔ ∀ k, awake w c (taskOfCode k) = false := by
  rw [selectTask_eq_none, taskOfCode_surjective.forall]
  exact forall_congr' fun k => forall_prop_of_true (Params.mem_taskPriority h _)

/-- Settles O45: what is awake by task number, then the selection of the task before which none is awake, of the least
number under the default order, and of none. -/
theorem selectionTakesTheFirstAwakeTask : Obligations.SelectionTakesTheFirstAwakeTask := by
  intro inp s s' h flag ioTerm isAwake
  have hawake : ∀ c, isAwake c ↔ awake (sampleWakes inp s.wake) s.io (taskOfCode c) = true := fun c => by
    rw [awake_iff, ioWake_iff, sampleWakes_get_taskOfCode]
  rw [executeClick_cur h]
  simp only [hawake]
  refine ⟨fun c => ?_, fun hdefault c => ?_, fun hwf => ?_⟩
  · rw [selectTask_eq_some]
    simp only [taskOfCode_surjective.forall, Bool.not_eq_true]
  · rw [hdefault]
    exact selectTask_taskCodes
  · rw [selectTask_eq_none_of_wf hwf]
    simp only [Bool.not_eq_true]

/-! ### The idle click -/

/-- Settles O47: no order selects a task, so the click is idle. -/
theorem idleClickOnlyAdvancesThePhase : Obligations.IdleClickOnlyAdvancesThePhase := by
  intro inp s hasleep
  have hcur : (beginClick inp s).cur = none := selectTask_eq_none.mpr fun k _ => hasleep k
  exact executeClick_idle hcur

/-! ### The device flags -/

/-- The flags of the device tasks are the inputs of a click (45 R354). -/
def DeviceFlagsAre (inp : Inputs) (w : PerTask Bool) : Prop :=
  w.display = inp.wakeDisplay ∧ w.ethernet = inp.wakeEthernet ∧ w.refresh = inp.wakeRefresh ∧ w.disk = inp.wakeDisk

/-- The flags of the device tasks are in `w'` what they are in `w`. -/
def SameDeviceFlags (w w' : PerTask Bool) : Prop := ∀ k, isDeviceTask k = true → w'.get k = w.get k

theorem SameDeviceFlags.of_eq {w w' : PerTask Bool} (h : w' = w) : SameDeviceFlags w w' := fun _ _ => h ▸ rfl

theorem SameDeviceFlags.fields {w w' : PerTask Bool} (h : SameDeviceFlags w w') :
    w'.display = w.display ∧ w'.ethernet = w.ethernet ∧ w'.refresh = w.refresh ∧ w'.disk = w.disk :=
  ⟨h .display rfl, h .ethernet rfl, h .refresh rfl, h .disk rfl⟩

theorem DeviceFlagsAre.of_same {inp : Inputs} {w w' : PerTask Bool} (h : DeviceFlagsAre inp w)
    (hsame : SameDeviceFlags w w') : DeviceFlagsAre inp w' := by
  obtain ⟨hdisplay, hethernet, hrefresh, hdisk⟩ := hsame.fields
  rwa [DeviceFlagsAre, hdisplay, hethernet, hrefresh, hdisk]

theorem deviceFlagsAre_sampleWakes (inp : Inputs) (w : PerTask Bool) : DeviceFlagsAre inp (sampleWakes inp w) :=
  ⟨rfl, rfl, rfl, rfl⟩

/-- Setting the flag of a task that stores one. -/
theorem sameDeviceFlags_set {k : Task} (h : isDeviceTask k = false) (w : PerTask Bool) (b : Bool) :
    SameDeviceFlags w (w.set k b) := by
  intro j hj
  have hne : j ≠ k := by
    rintro rfl
    exact absurd (hj.symm.trans h) nofun
  exact PerTask.get_set_other _ _ _ _ hne

/-- Block does nothing for a device task (42 R245). -/
theorem sameDeviceFlags_wakeNext (m : Microword) (t : Task) (s : State) : SameDeviceFlags s.wake (wakeNext m t s) := by
  unfold wakeNext
  split
  next =>
    split
    next => exact .of_eq rfl
    next h => exact sameDeviceFlags_set (Bool.eq_false_iff.mpr h) _ _
  next => exact .of_eq rfl

theorem isDeviceTask_of_storedWakeTask {t : Nat} {k : Task} (h : storedWakeTask t = some k) :
    isDeviceTask k = false := by
  unfold storedWakeTask at h
  split at h <;> cases h <;> rfl

/-- A click leaves its inputs in the device flags, and in the model's own field (log 4). -/
theorem executeClick_deviceFlags {inp : Inputs} {s s' : State} (h : executeClick inp s = .next s') :
    s'.inp = inp ∧ DeviceFlagsAre inp s'.wake := by
  have hsampled := deviceFlagsAre_sampleWakes inp s.wake
  obtain rfl | ⟨m, t, ib, -, -, -, rfl⟩ := executeClick_next h
  · exact ⟨rfl, hsampled⟩
  · exact ⟨rfl, hsampled.of_same (sameDeviceFlags_wakeNext m t (beginClick inp s))⟩

theorem setWake_deviceFlags {t : Nat} {b : Bool} {s s' : State} (h : setWake t b s = .next s') :
    s'.inp = s.inp ∧ SameDeviceFlags s.wake s'.wake := by
  obtain ⟨k, hk, rfl⟩ := setWake_next h
  exact ⟨rfl, sameDeviceFlags_set (isDeviceTask_of_storedWakeTask hk) _ _⟩

/-- Settles O46, by the flags after a click and after setWake. -/
theorem deviceWakesAreTheSampledInputs : Obligations.DeviceWakesAreTheSampledInputs := by
  refine ⟨fun inp s s' h => ?_, fun t b s s' h => ?_⟩
  · obtain ⟨-, hflags⟩ := executeClick_deviceFlags h
    exact hflags
  · obtain ⟨-, hsame⟩ := setWake_deviceFlags h
    exact hsame.fields

/-! ### The device flags along the steps -/

theorem portRead_inp_wake {p : Byte} {s s' : State} (h : portRead p s = .next s') :
    s'.inp = s.inp ∧ s'.wake = s.wake := by
  obtain ⟨b, rfl | ⟨-, rfl⟩⟩ := portRead_next h <;> exact ⟨rfl, rfl⟩

theorem writeSlot_inp_wake (k : Fin 6) (v : Byte) (s : State) :
    (writeSlot k v s).inp = s.inp ∧ (writeSlot k v s).wake = s.wake := by
  unfold writeSlot
  split <;> exact ⟨rfl, rfl⟩

theorem portWrite_inp_wake {p v : Byte} {s s' : State} (h : portWrite p v s = .next s') :
    s'.inp = s.inp ∧ s'.wake = s.wake := by
  obtain ⟨k, -, rfl⟩ | rfl | rfl | rfl | rfl | rfl := portWrite_next h
  · exact writeSlot_inp_wake k v s
  all_goals exact ⟨rfl, rfl⟩

/-- A click samples; every other operation of the host leaves the last inputs and the device flags. -/
theorem performHostOp_deviceFlags {op : HostOp} {s s' : State} (h : performHostOp op s = .next s') :
    DeviceFlagsAre s'.inp s'.wake ∨ s'.inp = s.inp ∧ SameDeviceFlags s.wake s'.wake := by
  cases op with
  | executeClick inp =>
    obtain ⟨hinp, hflags⟩ := executeClick_deviceFlags h
    exact .inl (hinp ▸ hflags)
  | writeCS a w =>
    obtain ⟨-, -, rfl⟩ := writeCS_next h
    exact .inr ⟨rfl, .of_eq rfl⟩
  | setWake t b => exact .inr (setWake_deviceFlags h)
  | portRead p => exact .inr ((portRead_inp_wake h).imp_right .of_eq)
  | portWrite p v => exact .inr ((portWrite_inp_wake h).imp_right .of_eq)

/-- Settles O58: a step is a click, which samples, or one host operation. -/
theorem everyStepKeepsTheDeviceFlagsSampled : Obligations.EveryStepKeepsTheDeviceFlagsSampled := by
  refine ⟨⟨rfl, rfl, rfl, rfl⟩, fun s s' hs h => ?_⟩
  have hflags : DeviceFlagsAre s.inp s.wake := hs
  obtain ⟨-, he⟩ | ⟨op, rest, -, he⟩ := step_cases s
  · obtain ⟨hinp, hclick⟩ := executeClick_deviceFlags (he ▸ h)
    exact (hinp ▸ hclick : DeviceFlagsAre s'.inp s'.wake)
  · obtain hclick | ⟨hinp, hsame⟩ := performHostOp_deviceFlags (he ▸ h)
    · exact hclick
    · exact (hinp ▸ hflags.of_same hsame : DeviceFlagsAre s'.inp s'.wake)

end Sys2Proof.Machine
end

section
/-! What a step does with the word that its click fetches (O42 to O44), the host's writeCS and setWake (O49, O51), and
that no step is refused (O60). -/

namespace Sys2Proof.Machine

/-! ### The word of a click -/

/-- A click runs what the word at the selected task's TPC decodes to. -/
theorem executeClick_of_read {inp : Inputs} {s : State} {t : Task} {w : ControlWord}
    (hc : (beginClick inp s).cur = some t) (hr : s.cs.read (s.tpc.get t).toNat = some w) :
    executeClick inp s = exec (decode s.phase w) (beginClick inp s) :=
  executeClick_fetched hc hr

/-- Instructions that denote the same word do the same, whatever rows they are. -/
theorem exec_congr {i j : Instr} (h : i.body = j.body) (s : State) : exec i s = exec j s := by
  rw [exec_body, exec_body, h]

/-- The step whose operation is a click, from the agenda or with free inputs (log 3, log 4). -/
theorem step_eq_executeClick {s next : State} {inp : Inputs}
    (h : (∃ rest, s.agenda = .executeClick inp :: rest ∧ next = { s with agenda := rest }) ∨
      (s.agenda = [] ∧ inp = Config.freeInputs s.draws ∧ next = s)) : step s = executeClick inp next := by
  obtain ⟨rest, ha, rfl⟩ | ⟨ha, rfl, rfl⟩ := h
  · exact step_op ha
  · exact step_click ha

/-- Settles O42, by the word that the click fetches. -/
theorem stepRunsTheDecodedInstruction : Obligations.StepRunsTheDecodedInstruction := by
  intro s inp t next hop hcur
  rw [step_eq_executeClick hop]
  have hkept : next.cs = s.cs ∧ next.tpc = s.tpc ∧ next.phase = s.phase := by
    obtain ⟨rest, -, rfl⟩ | ⟨-, -, rfl⟩ := hop <;> exact ⟨rfl, rfl, rfl⟩
  obtain ⟨hcs, htpc, hphase⟩ := hkept
  rw [← hcs, ← htpc, ← hphase]
  refine ⟨fun w hr => executeClick_of_read hcur hr, fun i _ hr hi => ?_, executeClick_unloaded hcur⟩
  rw [executeClick_of_read hcur hr, hi]

/-- Settles O43: the row by which the decoder names the word denotes the instruction's own word (O2). -/
theorem stepRunsEveryEncodedInstruction : Obligations.StepRunsEveryEncodedInstruction := by
  intro s inp rest t i hagenda hwf hcur hr
  calc step s
    _ = executeClick inp { s with agenda := rest } := step_op hagenda
    _ = exec (decode s.phase (encode i)) (beginClick inp { s with agenda := rest }) := executeClick_of_read hcur hr
    _ = exec i (beginClick inp { s with agenda := rest }) :=
      exec_congr (decodeOfEncodeDenotesTheSameWord s.phase i hwf) _

/-! ### The word placed for the next step -/

theorem withFetchWord_eq {w : Nat} (hw : w < 2 ^ 48) (s : State) :
    s.withFetchWord 48 w = loadForNextStep (BitVec.ofNat 48 w) s := by
  rw [State.withFetchWord, Nat.mod_eq_of_lt hw]

/-- Settles O44: the click of the load selects the task at whose TPC the word was written. -/
theorem placedWordIsRunByTheNextStep : Obligations.PlacedWordIsRunByTheNextStep := by
  intro s w hwf hw
  rw [withFetchWord_eq hw]
  have hcur := beginClick_load (w := BitVec.ofNat 48 w) (Params.mem_taskPriority hwf .emulator)
  calc step (loadForNextStep (BitVec.ofNat 48 w) s)
    _ = executeClick Inputs.zero { loadForNextStep (BitVec.ofNat 48 w) s with agenda := [] } :=
      step_op (loadForNextStep_agenda _ s)
    _ = exec (decode s.phase (BitVec.ofNat 48 w))
          (beginClick Inputs.zero { loadForNextStep (BitVec.ofNat 48 w) s with agenda := [] }) :=
      executeClick_of_read hcur (Memory.read_write_same _ _ _)

/-! ### writeCS and setWake -/

theorem writeCS_of_inRange {a w : Nat} (ha : a < 4096) (hw : w < 2 ^ 48) (s : State) :
    writeCS a w s = .next { s with cs := s.cs.write a (BitVec.ofNat 48 w) } :=
  if_pos ⟨ha, hw⟩

theorem writeCS_of_outOfRange {a w : Nat} (h : 4096 ≤ a ∨ 2 ^ 48 ≤ w) (s : State) :
    writeCS a w s = .fault .badAddress :=
  if_neg fun ⟨ha, hw⟩ => h.elim ha.not_ge hw.not_ge

/-- Settles O49, by what a write of the control store is read as at its own and at another address. -/
theorem writeCSLoadsOneWord : Obligations.WriteCSLoadsOneWord := by
  intro a w s
  refine ⟨fun ha hw => ⟨_, writeCS_of_inRange ha hw s, ?_⟩, fun h => writeCS_of_outOfRange h s⟩
  have hnat : (BitVec.ofNat 12 a).toNat = a := (BitVec.toNat_ofNat a 12).trans (Nat.mod_eq_of_lt ha)
  have hread : (s.cs.write a (BitVec.ofNat 48 w)).read (BitVec.ofNat 12 a).toNat = some (BitVec.ofNat 48 w) := by
    rw [hnat, Memory.read_write_same]
  refine ⟨hread, fun b hb => ?_, rfl, fun t ht => ?_⟩
  · have hne : b.toNat ≠ a := fun h => hb (BitVec.eq_of_toNat_eq (h.trans hnat.symm))
    exact Memory.read_write_other _ _ _ _ hne
  · rw [fetchWord, ht, hread]

theorem setWake_of_noTask {t : Nat} (h : storedWakeTask t = none) (b : Bool) (s : State) :
    setWake t b s = .fault .badTask := by
  rw [setWake, h]

/-- The numbers of the device tasks, and those of no task, name no stored flag (45 R362). -/
theorem storedWakeTask_eq_none {t : Nat} (h : (1 ≤ t ∧ t ≤ 4) ∨ 8 ≤ t) : storedWakeTask t = none := by
  unfold storedWakeTask
  split
  case h_5 => rfl
  all_goals omega

/-- Settles O51, number by number. -/
theorem setWakeSetsAStoredFlag : Obligations.SetWakeSetsAStoredFlag :=
  fun b s => ⟨rfl, rfl, rfl, rfl, fun _ h => setWake_of_noTask (storedWakeTask_eq_none h) b s⟩

/-! ### No refusal -/

theorem runWord_ne_refused (m : Microword) (s : State) (r : Refusal) : runWord m s ≠ .refused r := by
  cases hc : s.cur with
  | none =>
    rw [runWord_idle m hc]
    nofun
  | some t =>
    cases hd : m.doubleIBRead with
    | true =>
      rw [runWord_of_doubleIBRead hc hd]
      nofun
    | false =>
      cases hi : ibNext m t s with
      | none =>
        rw [runWord_of_noRoom hc hd hi]
        nofun
      | some ib =>
        rw [runWord_commit hc hd hi]
        nofun

/-- Every row runs its word or faults as an invalid word. -/
theorem exec_ne_refused (i : Instr) (s : State) (r : Refusal) : exec i s ≠ .refused r := by
  cases hb : i.body with
  | word m =>
    rw [exec_word hb]
    exact runWord_ne_refused m s r
  | invalid w =>
    rw [exec_invalid hb]
    nofun

theorem executeClick_ne_refused (inp : Inputs) (s : State) (r : Refusal) : executeClick inp s ≠ .refused r := by
  cases hc : (beginClick inp s).cur with
  | none =>
    rw [executeClick_idle hc]
    nofun
  | some t =>
    cases hw : fetchWord t (beginClick inp s) with
    | none =>
      rw [executeClick_unloaded hc hw]
      nofun
    | some w =>
      rw [executeClick_fetched hc hw]
      exact exec_ne_refused _ _ r

theorem readSlot_ne_refused (k : Fin 6) (s : State) (r : Refusal) : readSlot k s ≠ .refused r := by
  unfold readSlot
  split <;> nofun

theorem portRead_ne_refused (p : Byte) (s : State) (r : Refusal) : portRead p s ≠ .refused r := by
  unfold portRead
  split
  next k _ => exact readSlot_ne_refused k s r
  next => split <;> nofun

theorem portWrite_ne_refused (p v : Byte) (s : State) (r : Refusal) : portWrite p v s ≠ .refused r := by
  unfold portWrite
  split
  next => nofun
  next => split <;> nofun

theorem performHostOp_ne_refused (op : HostOp) (s : State) (r : Refusal) : performHostOp op s ≠ .refused r := by
  cases op with
  | executeClick inp => exact executeClick_ne_refused inp s r
  | writeCS a w =>
    rw [performHostOp, writeCS]
    split <;> nofun
  | setWake t b =>
    rw [performHostOp, setWake]
    split <;> nofun
  | portRead p => exact portRead_ne_refused p s r
  | portWrite p v => exact portWrite_ne_refused p v s r

/-- Settles O60: a step is a click or one host operation. -/
theorem noStepIsRefused : Obligations.NoStepIsRefused := by
  intro s r
  obtain ⟨-, he⟩ | ⟨op, rest, -, he⟩ := step_cases s
  · exact he ▸ executeClick_ne_refused _ s r
  · exact he ▸ performHostOp_ne_refused op _ r

end Sys2Proof.Machine
end

section
/-! The frame of a word: which function of it reaches each piece of the state, and that nothing else changes (O41). -/

namespace Sys2Proof.Machine

section
variable {m : Microword} {t : Task} {s : State}

/-! ### The registers -/

/-- The destinations NOP and QREG write no register of RF (40 R178, R179). -/
theorem rfNext_of_noRF (h : m.dest = .nop ∨ m.dest = .qreg) : rfNext m t s = s.rf := by
  rw [rfNext_eq]
  obtain hd | hd := h <;> rw [hd] <;> rfl

/-- Only QREG, RAMQD and RAMQU write Q (40 R178, R182, R184). -/
theorem qNext_of_noQ (hq : m.dest ≠ .qreg) (hdown : m.dest ≠ .ramqd) (hup : m.dest ≠ .ramqu) :
    qNext m t s = s.q := by
  rw [qNext_eq]
  cases hd : m.dest with
  | qreg | ramqd | ramqu => contradiction
  | _ => rfl

/-- RHWrite writes no register of RH but `rB` (41 R212). -/
theorem rhNext_other {j : BitVec 4} (hj : j ≠ m.rB) :
    (rhNext m t s).read j = s.rh.read j ∧ (rhNext m t s).peek j = s.rh.peek j := by
  unfold rhNext
  split
  next => exact ⟨read_write_other _ _ _ _ hj, peek_write_other _ _ _ _ hj⟩
  next => exact ⟨rfl, rfl⟩

theorem uNext_of_noEnSU (h : m.enSU = false) : uNext m t s = s.u := if_neg (ne_true_of_eq_false h)

/-- A step writes no register of U but the one at its U address (42 R251). -/
theorem uNext_other {a : BitVec 8} (ha : a ≠ uAddr m s) :
    (uNext m t s).read a = s.u.read a ∧ (uNext m t s).peek a = s.u.peek a := by
  cases he : m.enSU with
  | true =>
    rw [uNext_of_enSU t s he]
    exact ⟨read_write_other _ _ _ _ ha, peek_write_other _ _ _ _ ha⟩
  | false =>
    rw [uNext_of_noEnSU he]
    exact ⟨rfl, rfl⟩

/-! ### The tasks, the stack pointer and the IB -/

theorem wakeNext_of_noBlock (h : m.y ≠ .fy .block) : wakeNext m t s = s.wake := by
  unfold wakeNext
  split
  next hy => exact absurd hy h
  next => rfl

/-- Block reaches the current task's flag only (42 R245). -/
theorem wakeNext_get_other {k : Task} (h : k ≠ t) : (wakeNext m t s).get k = s.wake.get k := by
  unfold wakeNext
  split
  next =>
    split
    next => rfl
    next => exact PerTask.get_set_other _ _ _ _ h
  next => rfl

theorem stackNext_of_noStackFn {z : ZField} (sp : BitVec 4) (hpush : z ≠ .push) (hpop : z ≠ .pop) (hpop2 : z ≠ .pop2) :
    stackNext z sp = sp := by
  cases z with
  | push | pop | pop2 => contradiction
  | _ => rfl

/-- Only BusIB, IBLoad and the two buffer dispatches change the IB (41 R207, R213; 43 R292, R293). -/
theorem ibNext_of_noIB (hread : m.xz.xFn ≠ .busIB) (hload : m.xz.xFn ≠ .ibLoad) (hd : m.y ≠ .bd .ibDisp)
    (hf : m.y ≠ .bd .alwaysIBDisp) : ibNext m t s = some s.ib :=
  (ibNext_noLoad t s (decide_eq_false hload)).trans (congrArg some (ibRest_of_noRead t s hread hd hf))

/-! ### The traps -/

/-- Without ClrIntErr no pending code and no interrupt request is removed (60 R402). -/
theorem trapNext_keeps (h : m.xz.xFn ≠ .clrIntErr) :
    (∀ k, s.trap.errPending.getLsbD k = true → (trapNext m t s).errPending.getLsbD k = true) ∧
      (s.trap.intReq = true → (trapNext m t s).intReq = true) := by
  rw [trapNext_of_ne t s h]
  refine ⟨fun k hk => ?_, fun hreq => ?_⟩
  · rw [raiseTraps_errPending, BitVec.getLsbD_or, hk, Bool.true_or]
  · rw [raiseTraps_intReq, hreq, Bool.true_or]

/-! ### The I/O channel -/

theorem ioYFn_eq_iff {f : IOFn} (hf : f ≠ .nop) : ioYFn m = f ↔ m.y = .io f := by
  unfold ioYFn
  split
  next g hy =>
    rw [hy]
    exact (YField.io.injEq g f).to_iff.symm
  next hno => exact iff_of_false hf.symm (hno f)

theorem ioZFn_eq_iff {f : IOFn} (hf : f ≠ .nop) : ioZFn m = f ↔ m.xz.z? = some (.io f) := by
  rw [← zFn_eq_iff_z? (by nofun)]
  unfold ioZFn
  split
  next g hz =>
    rw [hz]
    exact (ZField.io.injEq g f).to_iff.symm
  next hno => exact iff_of_false hf.symm (hno f)

/-- A part `g` of the channel stays when neither BusIOP nor one of the step's two I/O functions reaches it. -/
theorem ioNext_keeps {α : Type} {g : Channel → α} (htake : ∀ c, g (iopTake c) = g c)
    (happly : ∀ f, f = ioYFn m ∨ f = ioZFn m → ∀ c, g (ioApply f (outY m t s) c) = g c) :
    g (ioNext m t s) = g s.io := by
  obtain ⟨c, hc, he⟩ := ioNext_eq m t s
  rw [he, happly _ (.inr rfl), happly _ (.inl rfl)]
  obtain rfl | rfl := hc
  · rfl
  · exact htake s.io

/-- A part of the channel that among the I/O functions only `f` reaches stays in a word without `f`. -/
theorem ioNext_keeps_of_noFn {α : Type} {g : Channel → α} {f : IOFn} (hf : f ≠ .nop)
    (htake : ∀ c, g (iopTake c) = g c) (happly : ∀ f', f' ≠ f → ∀ y c, g (ioApply f' y c) = g c)
    (hno : ¬(m.y = .io f ∨ m.xz.z? = some (.io f))) : g (ioNext m t s) = g s.io := by
  rw [← ioYFn_eq_iff hf, ← ioZFn_eq_iff hf] at hno
  refine ioNext_keeps htake fun f' hf' c => happly f' ?_ _ c
  rintro rfl
  exact hno (hf'.imp Eq.symm Eq.symm)

theorem ioApply_of_ne_iopOData {f : IOFn} (h : f ≠ .iopOData) (y : Word) (c : Channel) :
    (ioApply f y c).cpToIop = c.cpToIop ∧ (ioApply f y c).cpAck = c.cpAck := by
  rw [ioApply_cpToIop, ioApply_cpAck, if_neg h, decide_eq_false h, Bool.false_or]
  exact ⟨rfl, rfl⟩

/-- IOPCtl sets the mode of the task that Y names, and of no other (42 R261). -/
theorem ioApply_wakeMode_get_other (f : IOFn) (y : Word) (c : Channel) {k : Task}
    (h : k ≠ taskOfCode (y.extractLsb' 4 3)) : (ioApply f y c).wakeMode.get k = c.wakeMode.get k := by
  rw [ioApply_wakeMode]
  split
  next => exact PerTask.get_set_other _ _ _ _ h
  next => rfl

end

/-- Settles O41: a word that answers a next state commits its click, piece by piece. -/
theorem whatAWordLeavesUnchanged : Obligations.WhatAWordLeavesUnchanged := by
  intro i m t s s' hb hc hexec x z ioFn
  obtain ⟨ib, hib, rfl⟩ := exec_commit hb hc hexec
  have hx : ∀ {f : FXFn}, f ≠ .nop → x ≠ some f → m.xz.xFn ≠ f := fun hf => mt (xFn_eq_iff_x? hf).mp
  have hz : ∀ {f : ZField}, f ≠ .nop → z ≠ some f → m.xz.zFn ≠ f := fun hf => mt (zFn_eq_iff_z? hf).mp
  have hother : ∀ k, k ≠ t → (s.tpc.set t (nextAddr m t s)).get k = s.tpc.get k ∧
      (linkNext m t s).get k = s.link.get k ∧ (wakeNext m t s).get k = s.wake.get k := fun k hk =>
    ⟨PerTask.get_set_other _ _ _ _ hk, linkNext_get_other m s hk, wakeNext_get_other hk⟩
  refine ⟨fun j => rfNext_other m t s, rfNext_of_noRF, qNext_of_noQ, fun j => rhNext_other,
    fun h => rhNext_of_ne t s (hx nofun h), fun a => uNext_other, uNext_of_noEnSU, hother,
    fun h => linkNext_of_noLinkOp t s (linkOp_of_noLink h), wakeNext_of_noBlock,
    fun hpush hpop hpop2 => stackNext_of_noStackFn _ (hz nofun hpush) (hz nofun hpop) (hz nofun hpop2),
    fun hread hload hd hf => ?_, fun h => ?_, fun h => ?_, ?_, ?_, fun h => ?_, fun h => ?_, fun h => ?_, fun h => ?_,
    fun k hk => ?_, fun _ => rfl, rfl, rfl, rfl, rfl, rfl, rfl, rfl, rfl, rfl⟩
  · rw [ibNext_of_noIB (hx nofun hread) (hx nofun hload) hd hf] at hib
    exact (Option.some_inj.mp hib).symm
  · obtain ⟨hpending, -⟩ := trapNext_keeps (t := t) (s := s) (hx nofun h)
    exact hpending
  · obtain ⟨-, hreq⟩ := trapNext_keeps (t := t) (s := s) (hx nofun h)
    exact hreq
  · exact ioNext_keeps (g := Channel.iopToCp) (fun _ => rfl) fun f _ => ioApply_iopToCp f _
  · exact ioNext_keeps (g := Channel.dmaMode) (fun _ => rfl) fun f _ => ioApply_dmaMode f _
  · exact (ioNext_iopReq m t s).trans (if_neg (hx (f := .busIOP) nofun h))
  · have hkeeps := ioNext_keeps_of_noFn (t := t) (s := s) (g := fun c => (c.cpToIop, c.cpAck)) (f := .iopOData) nofun
      (fun _ => rfl) (fun f hf y c => ?_) h
    · exact Prod.mk.inj hkeeps
    · obtain ⟨hbyte, hack⟩ := ioApply_of_ne_iopOData hf y c
      exact congrArg₂ Prod.mk hbyte hack
  · refine ioNext_keeps_of_noFn (g := Channel.dmaComplete) (f := .dmaDone) nofun (fun _ => rfl) (fun f hf y c => ?_) h
    rw [ioApply_dmaComplete, decide_eq_false hf, Bool.false_or]
  · refine ioNext_keeps_of_noFn (g := Channel.wakeMode) (f := .iopCtl) nofun (fun _ => rfl) (fun f hf y c => ?_) h
    rw [ioApply_wakeMode, if_neg hf]
  · exact ioNext_keeps (g := fun c => c.wakeMode.get k) (fun _ => rfl) fun f _ c =>
      ioApply_wakeMode_get_other f _ c hk

end Sys2Proof.Machine
end

section
/-! The traps that a word raises and the error code read (O36, O38), what of a click the trap register reaches (O39), and
the sources of the interrupt request along every step (O59). -/

namespace Sys2Proof.Machine

/-! ### The causes of the traps -/

/-- The boundary test by the stack function that the Z field names (42 R256). -/
theorem stackTrap_zFn (xz : XZField) (sp : BitVec 4) : stackTrap xz.zFn sp =
    ((decide (xz.z? = some .push) && decide (sp = 15)) || (decide (xz.z? = some .pop) && decide (sp = 0)) ||
      (decide (xz.z? = some .pop2) && decide (sp.toNat ≤ 1))) := by
  simp only [stackTrap_eq, zFn_eq_iff_z? (z := .push) nofun, zFn_eq_iff_z? (z := .pop) nofun,
    zFn_eq_iff_z? (z := .pop2) nofun]

theorem ibEmptyTrap_eq (m : Microword) (s : State) : ibEmptyTrap m s =
    (s.ib.isEmpty && decide (m.xz.x? = some .busIB ∨ m.xz.x? = some .busIBNA ∨ m.y = .bd .ibDisp)) := by
  rw [Bool.eq_iff_iff, ibEmptyTrap_iff, Bool.and_eq_true, List.isEmpty_iff, decide_eq_true_iff]

/-- A memory error is raised in a c2 write or c3 read of the Emulator that neither the last click's page cross nor an
Empty buffer suppresses (44 R326, R327). -/
theorem memErrTrap_eq (m : Microword) (t : Task) (s : State) : memErrTrap m t s =
    (s.inp.memErr && decide (t = .emulator) && m.mem && decide (s.phase ≠ .c1) && !s.pageCross &&
      !ibEmptyTrap m s) := by
  by_cases hph : s.phase = .c1
  · rw [memErrTrap, dataOperation_of_noData (.inl hph), decide_eq_false (not_not_intro hph)]
    simp only [Bool.and_false, Bool.false_and]
  · have hsup : suppressed m t s = (s.pageCross || ibEmptyTrap m s) := by
      rw [Bool.eq_iff_iff, suppressed_iff_of_ne_c1 hph, Bool.or_eq_true]
    rw [memErrTrap, dataOperation, hsup, Bool.not_or]
    simp only [Bool.and_assoc]

/-! ### Taking traps -/

theorem decide_trapSet_ne_zero (p e k b : Bool) : decide (trapSet p e k b ≠ 0) = (p || e || k || b) := by
  cases p <;> cases e <;> cases k <;> cases b <;> rfl

/-- Settles O36: the codes of the step are a trap set, which `raiseTraps` adds to what ClrIntErr left. -/
theorem trapsAreAddedAfterTheClear : Obligations.TrapsAreAddedAfterTheClear := by
  intro i m t s s' hb hc hexec start parity empty memory stack
  obtain ⟨ib, -, rfl⟩ := exec_commit hb hc hexec
  have hempty : ibEmptyTrap m s = empty := ibEmptyTrap_eq m s
  have hmemory : memErrTrap m t s = memory := by rw [memErrTrap_eq, hempty]
  have hstack : stackTrap m.xz.zFn s.stackP = stack := stackTrap_zFn m.xz s.stackP
  have hraised : trapsRaised m t s = trapSet parity memory stack empty := by
    rw [trapsRaised, hempty, hmemory, hstack]
  obtain ⟨h0, h1, h2, h3⟩ := trapSet_bits parity memory stack empty
  have hpending (k : Nat) : (commit m t s ib).trap.errPending.getLsbD k =
      (start.errPending.getLsbD k || (trapSet parity memory stack empty).getLsbD k) := by
    rw [commit_trap, trapNext_eq, hraised, raiseTraps_errPending, BitVec.getLsbD_or]
  refine ⟨h0 ▸ hpending 0, h1 ▸ hpending 1, h2 ▸ hpending 2, h3 ▸ hpending 3, ?_⟩
  rw [commit_trap, trapNext_eq, hraised, raiseTraps_intReq, decide_trapSet_ne_zero]
  simp only [Bool.or_assoc, start]

/-! ### The error code -/

theorem exists_getLsbD_of_ne_zero {w : Nat} {p : BitVec w} (h : p ≠ 0) : ∃ k, p.getLsbD k = true := by
  by_contra hno
  refine h (BitVec.eq_of_getLsbD_eq fun k _ => ?_)
  rw [BitVec.ofNat_eq_ofNat, BitVec.getLsbD_zero]
  exact Bool.eq_false_iff.mpr fun hk => hno ⟨k, hk⟩

/-- Settles O38: a nonempty set has a least code, and that is the code read. -/
theorem errorCodeIsTheSmallestPending : Obligations.ErrorCodeIsTheSmallestPending := by
  intro p
  refine ⟨fun h => h ▸ rfl, fun h => ?_⟩
  have hex := exists_getLsbD_of_ne_zero h
  have hbelow : ∀ k, k < Nat.find hex → p.getLsbD k = false := fun k hk => Bool.eq_false_iff.mpr (Nat.find_min hex hk)
  rw [errRead_of_smallest (Nat.find_spec hex) hbelow]
  exact ⟨Nat.find_spec hex, hbelow⟩

/-! ### What the trap register reaches -/

section
variable {m : Microword} {t : Task} {s : State} {r : TrapRegs}

/-- Only BusErr puts the trap register on the bus (41 R200), so no other word's ALU operation depends on it. -/
theorem operandR_with_trap (hx : m.xz.x? ≠ some .busErr) : operandR m t { s with trap := r } = operandR m t s := by
  have hbus : busD m t { s with trap := r } = busD m t s := by
    unfold busD
    split
    case h_8 hxz => exact absurd (congrArg XZField.x? hxz) hx
    all_goals rfl
  rw [operandR, hbus]
  rfl

theorem outFlags_with_trap (hx : m.xz.x? ≠ some .busErr) : outFlags m t { s with trap := r } = outFlags m t s := by
  rw [outFlags, operandR_with_trap hx]
  rfl

theorem outF_with_trap (hx : m.xz.x? ≠ some .busErr) : outF m t { s with trap := r } = outF m t s := by
  rw [outF, operandR_with_trap hx]
  rfl

theorem outY_with_trap (hx : m.xz.x? ≠ some .busErr) : outY m t { s with trap := r } = outY m t s := by
  rw [outY, outF_with_trap hx]
  rfl

theorem cancelled_with_trap (hx : m.xz.x? ≠ some .busErr) : cancelled m t { s with trap := r } = cancelled m t s := by
  rw [cancelled, crossNow, outFlags_with_trap hx]
  rfl

theorem dispatchByte_with_trap (hx : m.xz.x? ≠ some .busErr) :
    dispatchByte m t { s with trap := r } = dispatchByte m t s := by
  rw [dispatchByte, cancelled_with_trap hx]
  rfl

theorem ibNext_with_trap (hx : m.xz.x? ≠ some .busErr) : ibNext m t { s with trap := r } = ibNext m t s := by
  rw [ibNext, consumesIB, dispatchByte_with_trap hx, outY_with_trap hx]
  rfl

/-- Of the branches and dispatches only IntBr tests the trap register (43 R285). -/
theorem bdTerm_with_trap {f : BDFn} (hx : m.xz.x? ≠ some .busErr) (hf : f ≠ .intBr) :
    bdTerm f m t { s with trap := r } = bdTerm f m t s := by
  unfold bdTerm
  rw [outFlags_with_trap hx, outY_with_trap hx, dispatchByte_with_trap hx]
  cases f with
  | intBr => contradiction
  | _ => rfl

theorem nextAddr_with_trap (hx : m.xz.x? ≠ some .busErr) (hy : m.y ≠ .bd .intBr) :
    nextAddr m t { s with trap := r } = nextAddr m t s := by
  unfold nextAddr
  split
  next f hf => rw [bdTerm_with_trap hx fun h => hy (h ▸ hf)]
  next => rfl

theorem memEvent_with_trap (hx : m.xz.x? ≠ some .busErr) : memEvent m t { s with trap := r } = memEvent m t s := by
  rw [memEvent, latchAddr, suppressed, cancelled_with_trap hx, outY_with_trap hx]
  rfl

/-- Of the next state, the trap register reaches the trap register only (60 R400, R409). -/
theorem commit_with_trap (hx : m.xz.x? ≠ some .busErr) (hy : m.y ≠ .bd .intBr) (ib : List Byte) :
    commit m t { s with trap := r } ib =
      { commit m t s ib with trap := trapNext m t { s with trap := r } } := by
  rw [commit, rfNext, qNext, rhNext, uNext, ioNext, crossNow, outF_with_trap hx, outY_with_trap hx,
    outFlags_with_trap hx, nextAddr_with_trap hx hy, memEvent_with_trap hx]
  rfl

end

/-- Settles O39: with any trap register a word stops where it did, or commits the same click with the same IB. -/
theorem trapRegisterChangesNothingElse : Obligations.TrapRegisterChangesNothingElse := by
  intro i m t s r hb hc hx hy
  have hib : ibNext m t { s with trap := r } = ibNext m t s := ibNext_with_trap hx
  rw [exec_word hb, exec_word hb]
  cases hd : m.doubleIBRead with
  | true =>
    rw [runWord_of_doubleIBRead hc hd, runWord_of_doubleIBRead (s := { s with trap := r }) hc hd]
    exact ⟨fun _ => nofun, fun _ => id⟩
  | false =>
    cases hi : ibNext m t s with
    | none =>
      rw [runWord_of_noRoom hc hd hi, runWord_of_noRoom (s := { s with trap := r }) hc hd (hib.trans hi)]
      exact ⟨fun _ => nofun, fun _ => id⟩
    | some ib =>
      rw [runWord_commit hc hd hi, runWord_commit (s := { s with trap := r }) hc hd (hib.trans hi),
        commit_with_trap (r := r) hx hy]
      refine ⟨fun s' h => ⟨trapNext m t { s with trap := r }, ?_⟩, fun _ => nofun⟩
      rw [← Host.Outcome.next.inj h]

/-! ### The trap register along the steps -/

/-- What a step from `s` to `s'` does to the trap register: it keeps it, writes the control port, or takes the traps
of a fetched word. -/
inductive TrapStep (s s' : State) : Prop
  | kept (trap : s'.trap = s.trap)
  | control (v : Byte) (rest : List HostOp) (agenda : s.agenda = .portWrite 0xEC v :: rest)
      (trap : s'.trap = { s.trap with intReq := s.trap.intReq || v.getLsbD 1 })
  | word (m : Microword) (t : Task) (cur : s'.cur = some t)
      (fetched : s.cs.read (s.tpc.get t).toNat = some m.encode) (start : State) (started : start.trap = s.trap)
      (trap : s'.trap = trapNext m t start)

/-- A click that is not idle commits the word that it fetched. -/
theorem executeClick_next_fetched {inp : Inputs} {s s' : State} (h : executeClick inp s = .next s') :
    s' = idleClick (beginClick inp s) ∨
      ∃ m t ib, (beginClick inp s).cur = some t ∧ s.cs.read (s.tpc.get t).toNat = some m.encode ∧
        s' = commit m t (beginClick inp s) ib := by
  cases hc : (beginClick inp s).cur with
  | none =>
    rw [executeClick_idle hc] at h
    exact .inl (Host.Outcome.next.inj h).symm
  | some t =>
    cases hw : fetchWord t (beginClick inp s) with
    | none =>
      rw [executeClick_unloaded hc hw] at h
      contradiction
    | some w =>
      rw [executeClick_fetched hc hw] at h
      obtain ⟨m, hb, -⟩ := exec_next h
      obtain ⟨ib, -, he⟩ := exec_commit hb hc h
      obtain ⟨hencode, -⟩ := encodeOfDecodeIsTheWord s.phase w
      have hm : m.encode = w := (encode_word hb).symm.trans hencode
      exact .inr ⟨m, t, ib, rfl, hm ▸ hw, he⟩

theorem executeClick_trapStep {inp : Inputs} {rest : List HostOp} {s s' : State}
    (h : executeClick inp { s with agenda := rest } = .next s') : TrapStep s s' := by
  obtain rfl | ⟨m, t, ib, hc, hr, rfl⟩ := executeClick_next_fetched h
  · exact .kept rfl
  · exact .word m t hc hr (beginClick inp { s with agenda := rest }) rfl rfl

/-- Of the ports, only a write of 0xEC reaches the trap register (60 R419). -/
theorem portWrite_trap {p v : Byte} {s s' : State} (h : portWrite p v s = .next s') :
    s'.trap = s.trap ∨ p = 0xEC ∧ s' = writeControl v s := by
  unfold portWrite at h
  split at h
  next k _ =>
    obtain rfl := Host.Outcome.next.inj h
    exact .inl (writeSlot_trap k v s)
  next =>
    split at h
    case h_2 => exact .inr ⟨rfl, (Host.Outcome.next.inj h).symm⟩
    case h_6 => contradiction
    all_goals
      obtain rfl := Host.Outcome.next.inj h
      exact .inl rfl

theorem performHostOp_trapStep {op : HostOp} {rest : List HostOp} {s s' : State} (ha : s.agenda = op :: rest)
    (h : performHostOp op { s with agenda := rest } = .next s') : TrapStep s s' := by
  cases op with
  | executeClick inp => exact executeClick_trapStep h
  | writeCS a w =>
    obtain ⟨-, -, rfl⟩ := writeCS_next h
    exact .kept rfl
  | setWake t b =>
    obtain ⟨k, -, rfl⟩ := setWake_next h
    exact .kept rfl
  | portRead p =>
    obtain ⟨b, rfl | ⟨-, rfl⟩⟩ := portRead_next h <;> exact .kept rfl
  | portWrite p v =>
    obtain hkept | ⟨rfl, rfl⟩ := portWrite_trap h
    · exact .kept hkept
    · exact .control v rest ha rfl

theorem step_trapStep {s s' : State} (h : step s = .next s') : TrapStep s s' := by
  obtain ⟨-, he⟩ | ⟨op, rest, ha, he⟩ := step_cases s
  · exact executeClick_trapStep (rest := s.agenda) (he ▸ h)
  · exact performHostOp_trapStep ha (he ▸ h)

/-! ### The sources of the interrupt request -/

/-- A request that a word adds comes with a pending code (60 R411). -/
theorem errPending_ne_zero_of_rise {m : Microword} {t : Task} {s : State} (hs : s.trap.intReq = false)
    (h : (trapNext m t s).intReq = true) : (trapNext m t s).errPending ≠ 0 := by
  have hstart : (trapStart m s).intReq = false := by
    unfold trapStart
    split
    next => rfl
    next => exact hs
  rw [trapNext_eq, raiseTraps_intReq, hstart, Bool.false_or, decide_eq_true_iff] at h
  rw [trapNext_eq, raiseTraps_errPending]
  exact fun h0 => h (BitVec.or_eq_zero_iff.mp h0).2

/-- ClrIntErr by the fields of the word: its X code, in a word that is no literal (30 R127). -/
theorem clrIntErr_fields {m : Microword} (h : m.xz.xFn = .clrIntErr) :
    m.encode.extractLsb' 16 4 = 10 ∧ m.encode.extractLsb' 24 2 ≠ 2 := by
  obtain ⟨hsel, hcode⟩ := (xFn_eq_iff m (by nofun)).mp h
  rw [encode_fX, encode_fSZ]
  exact ⟨hcode, hsel⟩

/-- A word that drops the request or a pending code clears by ClrIntErr (60 R404, R411). -/
theorem clrIntErr_of_drop {m : Microword} {t : Task} {s : State}
    (h : (s.trap.intReq = true ∧ (trapNext m t s).intReq = false) ∨
      ∃ k, s.trap.errPending.getLsbD k = true ∧ (trapNext m t s).errPending.getLsbD k = false) :
    m.xz.xFn = .clrIntErr := by
  by_contra hx
  obtain ⟨hpending, hreq⟩ := trapNext_keeps (t := t) (s := s) hx
  obtain ⟨hs, hdrop⟩ | ⟨k, hs, hdrop⟩ := h
  · exact Bool.false_ne_true (hdrop.symm.trans (hreq hs))
  · exact Bool.false_ne_true (hdrop.symm.trans (hpending k hs))

/-- Settles O59, by what a step does to the trap register. -/
theorem interruptRequestHasItsTwoSources : Obligations.InterruptRequestHasItsTwoSources := by
  intro s s' h
  cases step_trapStep h with
  | kept trap =>
    rw [trap]
    refine ⟨fun hs hs' => absurd (hs.symm.trans hs') nofun, ?_⟩
    rintro (⟨hs, hs'⟩ | ⟨k, hs, hs'⟩) <;> exact absurd (hs.symm.trans hs') nofun
  | control v rest agenda trap =>
    rw [trap]
    refine ⟨fun hs hs' => .inr ⟨v, rest, agenda, ?_⟩, ?_⟩
    · rwa [hs, Bool.false_or] at hs'
    · rintro (⟨hs, hs'⟩ | ⟨k, hs, hs'⟩)
      · rw [hs, Bool.true_or] at hs'
        contradiction
      · exact absurd (hs.symm.trans hs') nofun
  | word m t cur fetched start started trap =>
    rw [trap, ← started]
    exact ⟨fun hs hs' => .inl (errPending_ne_zero_of_rise hs hs'),
      fun hdrop => ⟨t, m.encode, cur, fetched, clrIntErr_fields (clrIntErr_of_drop hdrop)⟩⟩

end Sys2Proof.Machine
end

section
/-! The IOP's port map: what each port read returns and each port write does (O52, O53). -/

namespace Sys2Proof.Machine

/-! ### The ports by their addresses -/

/-- The ports 0xF8 to 0xFD are the six slots (60 R420, R424). -/
theorem slotOfPort_slot (k : Fin 6) : slotOfPort (BitVec.ofNat 8 (0xF8 + k.val)) = some k := by
  revert k
  decide

theorem slotOfPort_of_lt {p : Byte} (h : p.toNat < 0xF8) : slotOfPort p = none :=
  dif_neg fun ⟨hp, _⟩ => Nat.not_le.mpr h hp

theorem portRead_slot (k : Fin 6) (s : State) : portRead (BitVec.ofNat 8 (0xF8 + k.val)) s = readSlot k s := by
  unfold portRead
  rw [slotOfPort_slot]

theorem portWrite_slot (k : Fin 6) (v : Byte) (s : State) :
    portWrite (BitVec.ofNat 8 (0xF8 + k.val)) v s = .next (writeSlot k v s) := by
  unfold portWrite
  rw [slotOfPort_slot]

/-- Below the slots, only the latch and the status are read (60 R421, R426). -/
theorem portRead_outside {p : Byte} (hlatch : p ≠ 0xEB) (hstatus : p ≠ 0xEC) (h : p.toNat < 0xF8) (s : State) :
    portRead p s = .fault .portOutsideCore := by
  unfold portRead
  rw [slotOfPort_of_lt h]
  dsimp only
  split
  case h_1 | h_2 => contradiction
  case h_3 | h_4 => exact absurd h (by decide)
  case h_5 => rfl

/-- Below the slots, only the latch, the control and the DMA-complete clear are written (60 R426). -/
theorem portWrite_outside {p : Byte} (hlatch : p ≠ 0xEB) (hcontrol : p ≠ 0xEC) (hdma : p ≠ 0xEE)
    (h : p.toNat < 0xF8) (v : Byte) (s : State) : portWrite p v s = .fault .portOutsideCore := by
  unfold portWrite
  rw [slotOfPort_of_lt h]
  dsimp only
  split
  case h_1 | h_2 | h_3 => contradiction
  case h_4 | h_5 => exact absurd h (by decide)
  case h_6 => rfl

/-! ### Reading -/

/-- The status byte as the sum of its four bits (60 R418). -/
theorem statusByte_eq (c : Channel) : statusByte c = BitVec.ofNat 8 ((if c.cpAck then 1 else 0) +
    (if c.iopReq then 2 else 0) + (if c.dmaComplete then 4 else 0) + (if c.dmaMode then 8 else 0)) := by
  rw [statusByte]
  cases c.dmaMode <;> cases c.dmaComplete <;> cases c.iopReq <;> cases c.cpAck <;> rfl

theorem readSlot_loaded {s : State} {w : ControlWord} (h : accCS s s.tpc.iopcs = some w) (k : Fin 6) :
    readSlot k s = .next { s with reply := some (w.extractLsb' (40 - 8 * k.val) 8) } := by
  have hread : s.cs.read (csPortAddr s) = some w := h
  rw [readSlot, hread]
  rfl

theorem readSlot_unloaded {s : State} (h : accCS s s.tpc.iopcs = none) (k : Fin 6) :
    readSlot k s = .fault .csUnloaded := by
  have hread : s.cs.read (csPortAddr s) = none := h
  rw [readSlot, hread]

/-- Settles O52, port by port. -/
theorem portReadsReturnTheMap : Obligations.PortReadsReturnTheMap := by
  intro s answers bit
  refine ⟨portRead_latch s, ?_, rfl, rfl, fun k hk => ⟨fun w hw => ?_, fun hnone => ?_⟩,
    fun p hlatch hstatus h => portRead_outside hlatch hstatus h s⟩
  · rw [portRead_status, statusByte_eq]
  · exact (portRead_slot ⟨k, hk⟩ s).trans (readSlot_loaded hw ⟨k, hk⟩)
  · exact (portRead_slot ⟨k, hk⟩ s).trans (readSlot_unloaded hnone ⟨k, hk⟩)

/-! ### Writing -/

/-- Bit 1 of the control byte sets the interrupt request and never clears it (60 R419). -/
theorem writeControl_eq (v : Byte) (s : State) : writeControl v s = { s with
    io := { s.io with dmaMode := v.getLsbD 0 }
    trap := { s.trap with intReq := if v.getLsbD 1 then true else s.trap.intReq } } := by
  rw [writeControl]
  cases v.getLsbD 1 with
  | true => rw [Bool.or_true, if_pos rfl]
  | false => rw [Bool.or_false, if_neg Bool.false_ne_true]

/-- The slots a to e only stage (60 R420). -/
theorem writeSlot_of_ne {k : Fin 6} (h : k.val ≠ 5) (v : Byte) (s : State) :
    writeSlot k v s = { s with csStage := s.csStage.set k.val v k.isLt } :=
  if_neg h

/-- Slot f stages its byte and commits the staged word (60 R420). -/
theorem writeSlot_last (v : Byte) (s : State) : writeSlot 5 v s = { s with
    csStage := s.csStage.set 5 v (by decide)
    cs := s.cs.write (csPortAddr s) (stagedWord (s.csStage.set 5 v (by decide))) } :=
  rfl

theorem stagedWord_set_last (st : Vector Byte 6) (v : Byte) :
    stagedWord (st.set 5 v (by decide)) = st[0] ++ st[1] ++ st[2] ++ st[3] ++ st[4] ++ v := by
  have hother (i : Nat) (hi : i < 5) : (st.set 5 v (by decide))[i] = st[i] :=
    Vector.getElem_set_ne (by decide) (by omega) hi.ne'
  rw [stagedWord, hother 0 (by decide), hother 1 (by decide), hother 2 (by decide), hother 3 (by decide),
    hother 4 (by decide), Vector.getElem_set_self]

/-- Settles O53, port by port. -/
theorem portWritesUpdateTheMap : Obligations.PortWritesUpdateTheMap := by
  intro v s
  refine ⟨rfl, congrArg Host.Outcome.next (writeControl_eq v s), portWrite_clearDMA v s, rfl, rfl, fun k hk => ?_,
    ⟨writeSlot 5 v s, portWrite_slot 5 v s, rfl, ?_, fun a ha => ?_⟩,
    fun p hlatch hcontrol hdma h => portWrite_outside hlatch hcontrol hdma h v s⟩
  · have hslot : k < 6 := by omega
    rw [portWrite_slot ⟨k, hslot⟩, writeSlot_of_ne hk.ne]
  · rw [writeSlot_last, ← stagedWord_set_last]
    exact Memory.read_write_same _ _ _
  · rw [writeSlot_last]
    exact Memory.read_write_other _ _ _ _ fun h => ha (BitVec.eq_of_toNat_eq h)

end Sys2Proof.Machine
end

section
/-! The state after reset (O54), and that a machine none of whose tasks can wake by itself stays idle (O55). -/

namespace Sys2Proof.Machine

/-! ### The values of reset -/

/-- A register file that nothing has written shows no value, whatever it holds (10 R42; log 1). -/
theorem RegFile.peek_replicate_unwritten {w k : Nat} (x : BitVec w) (i : BitVec k) :
    RegFile.peek (Vector.replicate (2 ^ k) ⟨x, false⟩) i = none := by
  rw [RegFile.peek, Vector.getElem_replicate]
  rfl

/-- Every task of a reset machine has a zero TPC and Link, a clear wakeup flag and a Disabled wake mode. -/
theorem reset_perTask (t : Task) :
    State.reset.tpc.get t = 0 ∧ State.reset.link.get t = 0 ∧ State.reset.wake.get t = false ∧
      State.reset.io.wakeMode.get t = .disabled :=
  ⟨PerTask.get_all _ t, PerTask.get_all _ t, PerTask.get_all _ t, PerTask.get_all _ t⟩

/-- Settles O54: the register files by what they show, the per-task values and the stages by what they are filled
with; every other value stands in `State.reset`, and none depends on the parameters. -/
theorem resetLeavesTheValuesOfTheRule : Obligations.ResetLeavesTheValuesOfTheRule := by
  intro p s
  have hrf (i : BitVec 4) : accRF s i = none := RegFile.peek_replicate_unwritten 0 i
  have hrh (i : BitVec 4) : accRH s i = none := RegFile.peek_replicate_unwritten 0 i
  have hu (i : BitVec 8) : accU s i = none := RegFile.peek_replicate_unwritten 0 i
  have herr : errRead 0 = 4 := by decide
  have hstage (k : Nat) (hk : k < 6) : s.csStage[k] = 0 := Vector.getElem_replicate hk
  exact ⟨hrf, rfl, hrh, hu, rfl, rfl, reset_perTask, rfl, rfl, rfl, rfl, rfl, rfl, herr, rfl, rfl, rfl, rfl, rfl, rfl,
    rfl, rfl, fun _ => rfl, hstage, rfl, rfl⟩

/-! ### Asleep -/

/-- No task that stores its wakeup flag has it set, and no wake mode lets the I/O channel wake a task. -/
structure Asleep (s : State) : Prop where
  flags : ∀ k, isDeviceTask k = false → s.wake.get k = false
  modes : ∀ t, s.io.wakeMode.get t = .disabled

theorem asleep_iff {s : State} : Asleep s ↔
    s.wake.emulator = false ∧ s.wake.iop = false ∧ s.wake.iopcs = false ∧ s.wake.kernel = false ∧
      ∀ t, s.io.wakeMode.get t = .disabled := by
  constructor
  · rintro ⟨flags, modes⟩
    exact ⟨flags .emulator rfl, flags .iop rfl, flags .iopcs rfl, flags .kernel rfl, modes⟩
  · rintro ⟨hemulator, hiop, hiopcs, hkernel, modes⟩
    refine ⟨fun k hk => ?_, modes⟩
    cases k with
    | emulator => exact hemulator
    | iop => exact hiop
    | iopcs => exact hiopcs
    | kernel => exact hkernel
    | display | ethernet | refresh | disk => contradiction

theorem asleep_reset : Asleep State.reset where
  flags k _ := PerTask.get_all _ k
  modes t := PerTask.get_all _ t

theorem Asleep.of_eq {s s' : State} (hs : Asleep s) (hwake : s'.wake = s.wake)
    (hmode : s'.io.wakeMode = s.io.wakeMode) : Asleep s' where
  flags := hwake ▸ hs.flags
  modes := hmode ▸ hs.modes

/-- Clearing a wakeup flag wakes no task. -/
theorem Asleep.clearWake {s : State} (hs : Asleep s) (k : Task) : Asleep { s with wake := s.wake.set k false } where
  flags j hj := by
    by_cases hjk : j = k
    · rw [hjk]
      exact PerTask.get_set_same _ _ _
    · exact (PerTask.get_set_other _ _ _ _ hjk).trans (hs.flags j hj)
  modes := hs.modes

/-! ### A click of an asleep machine -/

/-- An input signal of a device task is true. -/
def DeviceWakes (inp : Inputs) : Prop :=
  inp.wakeDisplay = true ∨ inp.wakeEthernet = true ∨ inp.wakeRefresh = true ∨ inp.wakeDisk = true

/-- Sampling leaves the stored flags (45 R354). -/
theorem sampleWakes_get_stored {k : Task} (hk : isDeviceTask k = false) (inp : Inputs) (w : PerTask Bool) :
    (sampleWakes inp w).get k = w.get k := by
  cases k with
  | emulator | iop | iopcs | kernel => rfl
  | display | ethernet | refresh | disk => contradiction

/-- A device task's flag is set by its input only (45 R354). -/
theorem deviceWakes_of_sampled {inp : Inputs} {w : PerTask Bool} {k : Task} (hk : isDeviceTask k = true)
    (h : (sampleWakes inp w).get k = true) : DeviceWakes inp := by
  cases k with
  | emulator | iop | iopcs | kernel => contradiction
  | display => exact .inl h
  | ethernet => exact .inr (.inl h)
  | refresh => exact .inr (.inr (.inl h))
  | disk => exact .inr (.inr (.inr h))

theorem ioWake_of_disabled {c : Channel} {t : Task} (h : c.wakeMode.get t = .disabled) : ioWake c t = false := by
  rw [ioWake, h]

/-- In an asleep machine, a device input alone can make a task awake. -/
theorem Asleep.deviceWakes_of_awake {s : State} (hs : Asleep s) {inp : Inputs} {k : Task}
    (h : awake (sampleWakes inp s.wake) s.io k = true) : DeviceWakes inp := by
  obtain hflag | hio := awake_iff.mp h
  · cases hk : isDeviceTask k with
    | true => exact deviceWakes_of_sampled hk hflag
    | false =>
      rw [sampleWakes_get_stored hk, hs.flags k hk] at hflag
      contradiction
  · rw [ioWake_of_disabled (hs.modes k)] at hio
    contradiction

/-- Without a device input the click of an asleep machine is the idle click (45 R356; 70 R451). -/
theorem Asleep.executeClick_eq {s : State} (hs : Asleep s) {inp : Inputs} (hinp : ¬DeviceWakes inp) :
    executeClick inp s = .next (idleClick (beginClick inp s)) :=
  executeClick_idle <| selectTask_eq_none.mpr fun _ _ => Bool.eq_false_iff.mpr (hinp ∘ hs.deviceWakes_of_awake)

/-- The idle click changes the flags of the device tasks only, which do not count for `Asleep`. -/
theorem Asleep.idleClick_beginClick {s : State} (hs : Asleep s) (inp : Inputs) :
    Asleep (idleClick (beginClick inp s)) where
  flags k hk := (sampleWakes_get_stored hk inp s.wake).trans (hs.flags k hk)
  modes := hs.modes

/-! ### A step of an asleep machine -/

theorem Asleep.after_executeClick {s s' : State} (hs : Asleep s) {inp : Inputs} (h : executeClick inp s = .next s') :
    Asleep s' ∨ DeviceWakes inp := by
  by_cases hinp : DeviceWakes inp
  · exact .inr hinp
  · rw [hs.executeClick_eq hinp] at h
    obtain rfl := Host.Outcome.next.inj h
    exact .inl (hs.idleClick_beginClick inp)

theorem Asleep.after_setWake {s s' : State} (hs : Asleep s) {t : Nat} {b : Bool} (h : setWake t b s = .next s') :
    Asleep s' ∨ b = true := by
  obtain ⟨k, -, rfl⟩ := setWake_next h
  cases b with
  | false => exact .inl (hs.clearWake k)
  | true => exact .inr rfl

/-- No port read changes a wake mode (60 R416 to R426). -/
theorem portRead_wakeMode {p : Byte} {s s' : State} (h : portRead p s = .next s') :
    s'.io.wakeMode = s.io.wakeMode := by
  obtain ⟨b, rfl | ⟨-, rfl⟩⟩ := portRead_next h <;> rfl

theorem writeSlot_io (k : Fin 6) (v : Byte) (s : State) : (writeSlot k v s).io = s.io := by
  unfold writeSlot
  split <;> rfl

/-- No port write changes a wake mode: IOPCtl alone sets one (42 R261). -/
theorem portWrite_wakeMode {p v : Byte} {s s' : State} (h : portWrite p v s = .next s') :
    s'.io.wakeMode = s.io.wakeMode := by
  obtain ⟨k, -, rfl⟩ | rfl | rfl | rfl | rfl | rfl := portWrite_next h
  · rw [writeSlot_io]
  all_goals rfl

/-- Of the host's operations, a click with a device input and a `setWake` to true can end the sleep, and no other. -/
theorem Asleep.after_performHostOp {s s' : State} (hs : Asleep s) {op : HostOp} (h : performHostOp op s = .next s') :
    Asleep s' ∨ (∃ inp, op = .executeClick inp ∧ DeviceWakes inp) ∨ ∃ t, op = .setWake t true := by
  cases op with
  | executeClick inp => exact (hs.after_executeClick h).imp_right fun hinp => .inl ⟨inp, rfl, hinp⟩
  | writeCS a w =>
    obtain ⟨-, -, rfl⟩ := writeCS_next h
    exact .inl (hs.of_eq rfl rfl)
  | setWake t b => exact (hs.after_setWake h).imp_right fun hb => .inr ⟨t, congrArg (HostOp.setWake t) hb⟩
  | portRead p =>
    obtain ⟨-, hwake⟩ := portRead_inp_wake h
    exact .inl (hs.of_eq hwake (portRead_wakeMode h))
  | portWrite p v =>
    obtain ⟨-, hwake⟩ := portWrite_inp_wake h
    exact .inl (hs.of_eq hwake (portWrite_wakeMode h))

/-- Settles O55: the idle click without a device input, and the operations of the host one by one. -/
theorem resetMachineIdlesUntilWoken : Obligations.ResetMachineIdlesUntilWoken := by
  refine ⟨asleep_iff.mp asleep_reset, fun inp s hasleep hinp => ?_, fun s s' hasleep h => ?_⟩
  · have hs : Asleep s := asleep_iff.mpr hasleep
    exact ⟨_, hs.executeClick_eq hinp, rfl, asleep_iff.mp (hs.idleClick_beginClick inp), rfl, rfl, rfl, rfl, rfl, rfl,
      rfl, rfl, rfl⟩
  · have hs : Asleep s := asleep_iff.mpr hasleep
    obtain ⟨hagenda, he⟩ | ⟨op, rest, hagenda, he⟩ := step_cases s
    · obtain hs' | hinp := hs.after_executeClick (he ▸ h)
      · exact .inl (asleep_iff.mp hs')
      · exact .inr (.inr (.inl ⟨hagenda, hinp⟩))
    · have hrest : Asleep { s with agenda := rest } := hs.of_eq rfl rfl
      obtain hs' | ⟨inp, rfl, hinp⟩ | ⟨t, rfl⟩ := hrest.after_performHostOp (he ▸ h)
      · exact .inl (asleep_iff.mp hs')
      · exact .inr (.inl ⟨inp, rest, hagenda, hinp⟩)
      · exact .inr (.inr (.inr ⟨t, rest, hagenda⟩))

end Sys2Proof.Machine
end
